-- ==== Sys2Proof/Word.lean ====
section
/-! DEFINITION. Word types of ESL-EPDC: bytes, the 16-bit request and status words, the 32-bit working
registers, and the level of a one-bit line. -/

namespace Sys2Proof

/-- One byte: a byte on the wire, a byte of a plane, a byte of a waveform table. -/
abbrev Byte := BitVec 8

/-- The width of `REQ`, `STATUS` and `OPR` (10_state.md R20, R30). -/
abbrev Half := BitVec 16

/-- The width of `SEQ` and `POLLS` (10_state.md R20). -/
abbrev Word := BitVec 32

/-- The level of a one-bit line: `false` is 0, low; `true` is 1, high (40_bus_transport.md R100).
The complement `1 - x` of the spec is `!x`. -/
abbrev Level := Bool

end Sys2Proof
end

