-- ==== Sys2Proof/Syntax.lean ====
section
/-! DEFINITION. The instruction syntax of ESL-EPDC: one constructor of `Instr` for each row of
spec/opcode_table.json: the 12 host operations and the reserved range of the request word, the 23 wire
frames, the 6 micro-ops (30_encoding.md R72, R75, R77). -/

namespace Sys2Proof

/-- The three output lines (10_state.md R26). `BUSY` is an input and never an operand
(40_bus_transport.md R100). -/
inductive Line
  | rst
  | dc
  | cs
  deriving DecidableEq, Repr

/-- The panel states `SETPS` can write (41_framing_handshake_reset.md R129). -/
inductive RestState
  | uninit
  | idle
  | sleeping
  deriving DecidableEq, Repr

/-- Where the byte of a transfer comes from (40_bus_transport.md R103). -/
inductive ByteSrc
  /-- `Imm(b)`: the constant `b`. -/
  | imm (b : Byte)
  /-- `FBB(a)`: the byte `FB_BLACK[a]`. -/
  | fbb (a : Nat)
  /-- `FBBN(a)`: the complement of `FB_BLACK[a]`. -/
  | fbbn (a : Nat)
  /-- `LUTB(t, i)`: the byte `LUT[t][i]`. -/
  | lutb (t : BitVec 3) (i : Fin 15)
  deriving DecidableEq, Repr

/-- `update_mode` of `DISPLAY_FRAME` (44_frame_transfer.md R180); the value 3 is no mode (R188). -/
inductive UpdateMode
  /-- 0: both planes. -/
  | both
  /-- 1: black plane only. -/
  | blackOnly
  /-- 2: red-transfer-pass only. -/
  | redOnly
  deriving DecidableEq, Repr

/-- What a `WRITE_RAM_RED` frame carries (30_encoding.md R75). -/
inductive RedFill
  /-- The red pass of `DISPLAY_FRAME` and `SHOW` (44_frame_transfer.md R182, R183). -/
  | picture (full hl : Bool)
  /-- `N` times `0x00`, of `CLEAR_TO_WHITE` (45_sleep_clear.md R212). -/
  | zeros
  deriving DecidableEq, Repr

/-- What a `WRITE_RAM_BLACK` frame carries (30_encoding.md R75). -/
inductive BlackFill
  /-- The black pass of `DISPLAY_FRAME` and `SHOW` (44_frame_transfer.md R184, R185). -/
  | picture (full : Bool)
  /-- `N` times `0xFF`, of `CLEAR_TO_WHITE` (45_sleep_clear.md R212). -/
  | ones
  deriving DecidableEq, Repr

/-- The micro-ops, the values `Prog` yields (30_encoding.md R77). -/
inductive Uop
  | setl (line : Line) (level : Level)
  | dly (ms : Nat)
  | xfer (src : ByteSrc)
  | waiti
  | setps (ps : RestState)
  | endOp
  deriving DecidableEq, Repr

/-- The rows of spec/opcode_table.json. -/
inductive Instr
  -- host operations (30_encoding.md R72)
  /-- `WAIT_IDLE` -/
  | waitIdle
  /-- `SEND_COMMAND opcode` -/
  | sendCommand (opcode : Byte)
  /-- `SEND_DATA byte` -/
  | sendData (byte : Byte)
  /-- `RESET` -/
  | reset
  /-- `INITIALIZE` -/
  | initPanel
  /-- `LOAD_LUT table_id` -/
  | loadLut (table : BitVec 3)
  /-- `LOAD_LUT_BW` -/
  | loadLutBw
  /-- `LOAD_LUT_RED` -/
  | loadLutRed
  /-- `DISPLAY_FRAME mode full hl` -/
  | displayFrame (mode : UpdateMode) (full hl : Bool)
  /-- `SLEEP` -/
  | sleep
  /-- `CLEAR_TO_WHITE` -/
  | clearToWhite
  /-- `SHOW alarm` -/
  | showSession (alarm : Bool)
  /-- The reserved range `OP = 0xC .. 0xF` (30_encoding.md R81), with the word's 14 low bits. -/
  | reservedOp (x : BitVec 14)
  -- wire frames (30_encoding.md R75)
  /-- `F_SWRESET` -/
  | fSwreset
  /-- `F_DRIVER_OUTPUT` -/
  | fDriverOutput
  /-- `F_DATA_ENTRY` -/
  | fDataEntry
  /-- `F_RAM_X_WINDOW` -/
  | fRamXWindow
  /-- `F_RAM_Y_WINDOW` -/
  | fRamYWindow
  /-- `F_BORDER` -/
  | fBorder
  /-- `F_TEMP_SENSOR` -/
  | fTempSensor
  /-- `F_UPDATE_CTRL1` -/
  | fUpdateCtrl1
  /-- `F_RAM_X_COUNTER` -/
  | fRamXCounter
  /-- `F_RAM_Y_COUNTER` -/
  | fRamYCounter
  /-- `F_LUT0_VCOM` -/
  | fLut0Vcom
  /-- `F_LUT1_WHITE` -/
  | fLut1White
  /-- `F_LUT2_BLACK` -/
  | fLut2Black
  /-- `F_LUT3_GRAY1` -/
  | fLut3Gray1
  /-- `F_LUT4_GRAY2` -/
  | fLut4Gray2
  /-- `F_LUT5_VCOM1` -/
  | fLut5Vcom1
  /-- `F_LUT6_RED0` -/
  | fLut6Red0
  /-- `F_LUT7_RED1` -/
  | fLut7Red1
  /-- `F_WRITE_RAM_RED` -/
  | fWriteRamRed (fill : RedFill)
  /-- `F_WRITE_RAM_BLACK` -/
  | fWriteRamBlack (fill : BlackFill)
  /-- `F_UPDATE_CTRL2` -/
  | fUpdateCtrl2
  /-- `F_ACTIVATE` -/
  | fActivate
  /-- `F_DEEP_SLEEP` -/
  | fDeepSleep
  -- micro-ops (30_encoding.md R77)
  /-- `SETL(line, level)` -/
  | setl (line : Line) (level : Level)
  /-- `DLY(ms)` -/
  | dly (ms : Nat)
  /-- `XFER(src)` -/
  | xfer (src : ByteSrc)
  /-- `WAITI` -/
  | waiti
  /-- `SETPS(s)` -/
  | setps (ps : RestState)
  /-- `END` -/
  | endOp
  deriving DecidableEq, Repr

/-- A micro-op as an instruction. -/
def Uop.instr : Uop → Instr
  | .setl line level => .setl line level
  | .dly ms => .dly ms
  | .xfer src => .xfer src
  | .waiti => .waiti
  | .setps ps => .setps ps
  | .endOp => .endOp

end Sys2Proof
end

