-- ==== Sys2Proof/Decode.lean ====
section
/-! DEFINITION. The decoder of the request word, total, rejecting by name, and its encoder (30_encoding.md R70 to
R73, R81); the wire format's encoder and its reader (30_encoding.md R74). Micro-ops have no encoding (R77), and a
wire frame's opcode is an open parameter (R75), so only the 16-bit request words decode to an `Instr`. -/

namespace Sys2Proof

/-- Why a request word is illegal (30_encoding.md R81). The reserved `OP` codes are a row of the opcode table and
decode to `Instr.reservedOp`. -/
inductive DecodeError
  /-- `RSV != 0`. -/
  | reservedBits
  /-- A bit of `ARG` that the operation does not use is not 0. -/
  | reservedArg
  /-- `DISPLAY_FRAME` with `update_mode = 3`. -/
  | noUpdateMode
  deriving DecidableEq, Repr

/-- The update mode of `ARG[1:0]`; 3 is none (44_frame_transfer.md R188). -/
def decodeMode (m : BitVec 2) : Option UpdateMode :=
  match m.toNat with
  | 0 => some .both
  | 1 => some .blackOnly
  | 2 => some .redOnly
  | _ => none

/-- An operation that takes no operand: `ARG` must be 0 (30_encoding.md R72, R81). -/
def decodeNoArg (arg : Byte) (i : Instr) : Except DecodeError Instr :=
  if arg = 0#8 then .ok i else .error .reservedArg

/-- `LOAD_LUT`: `ARG[7:3] = 0`. -/
def decodeLoadLut (arg : Byte) : Except DecodeError Instr :=
  if arg.extractLsb' 3 5 = 0#5 then .ok (.loadLut (arg.extractLsb' 0 3)) else .error .reservedArg

/-- `DISPLAY_FRAME`: `ARG[7:4] = 0` and `ARG[1:0] != 3`. -/
def decodeDisplayFrame (arg : Byte) : Except DecodeError Instr :=
  if arg.extractLsb' 4 4 = 0#4 then
    match decodeMode (arg.extractLsb' 0 2) with
    | some mode => .ok (.displayFrame mode (arg.getLsbD 2) (arg.getLsbD 3))
    | none => .error .noUpdateMode
  else .error .reservedArg

/-- `SHOW`: `ARG[7:1] = 0`. -/
def decodeShow (arg : Byte) : Except DecodeError Instr :=
  if arg.extractLsb' 1 7 = 0#7 then .ok (.showSession (arg.getLsbD 0)) else .error .reservedArg

/-- The operation of a word whose `RSV` field is 0 and whose `OP` is below `0xC` (30_encoding.md R72). -/
def decodeOp (op : Nat) (arg : Byte) : Except DecodeError Instr :=
  match op with
  | 0 => decodeNoArg arg .waitIdle
  | 1 => .ok (.sendCommand arg)
  | 2 => .ok (.sendData arg)
  | 3 => decodeNoArg arg .reset
  | 4 => decodeNoArg arg .initPanel
  | 5 => decodeLoadLut arg
  | 6 => decodeNoArg arg .loadLutBw
  | 7 => decodeNoArg arg .loadLutRed
  | 8 => decodeDisplayFrame arg
  | 9 => decodeNoArg arg .sleep
  | 10 => decodeNoArg arg .clearToWhite
  | _ => decodeShow arg

/-- The request word (30_encoding.md R70): `[15:12] OP`, `[11:8] RSV`, `[7:0] ARG`. -/
def decode (q : Half) : Except DecodeError Instr :=
  if 0xC#4 ≤ q.extractLsb' 12 4 then .ok (.reservedOp (q.extractLsb' 0 14))
  else if q.extractLsb' 8 4 = 0#4 then decodeOp (q.extractLsb' 12 4).toNat (q.extractLsb' 0 8)
  else .error .reservedBits

/-! The encoder. -/

/-- A word of format `REQ16` with `RSV = 0` (30_encoding.md R70). -/
def reqWord (op : BitVec 4) (arg : Byte) : Half := op ++ (0#4 ++ arg)

/-- `ARG[1:0]` of an update mode (44_frame_transfer.md R180). -/
def encodeMode : UpdateMode → BitVec 2
  | .both => 0
  | .blackOnly => 1
  | .redOnly => 2

/-- The request word of a host operation, and of the reserved range; wire frames and micro-ops have none. -/
def requestWord : Instr → Option Half
  | .waitIdle => some (reqWord 0x0 0)
  | .sendCommand opcode => some (reqWord 0x1 opcode)
  | .sendData byte => some (reqWord 0x2 byte)
  | .reset => some (reqWord 0x3 0)
  | .initPanel => some (reqWord 0x4 0)
  | .loadLut t => some (reqWord 0x5 (0#5 ++ t))
  | .loadLutBw => some (reqWord 0x6 0)
  | .loadLutRed => some (reqWord 0x7 0)
  | .displayFrame mode full hl =>
    some (reqWord 0x8 (0#4 ++ (BitVec.ofBool hl ++ (BitVec.ofBool full ++ encodeMode mode))))
  | .sleep => some (reqWord 0x9 0)
  | .clearToWhite => some (reqWord 0xA 0)
  | .showSession alarm => some (reqWord 0xB (0#7 ++ BitVec.ofBool alarm))
  | .reservedOp x => some (0b11#2 ++ x)
  | .fSwreset | .fDriverOutput | .fDataEntry | .fRamXWindow | .fRamYWindow | .fBorder | .fTempSensor
  | .fUpdateCtrl1 | .fRamXCounter | .fRamYCounter | .fLut0Vcom | .fLut1White | .fLut2Black | .fLut3Gray1
  | .fLut4Gray2 | .fLut5Vcom1 | .fLut6Red0 | .fLut7Red1 | .fWriteRamRed _ | .fWriteRamBlack _
  | .fUpdateCtrl2 | .fActivate | .fDeepSleep => none
  | .setl _ _ | .dly _ | .xfer _ | .waiti | .setps _ | .endOp => none

/-- The words of an instruction: one for a request, none for what has no request word. -/
def encode (i : Instr) : List Half := (requestWord i).toList

/-- The request word of a host operation as it is latched into `OPR`. The value at a wire frame or a micro-op is
never used. -/
def wordOf (i : Instr) : Half := (requestWord i).getD 0

/-- The instruction the decoder reads from an instruction of `nbits` bits `w`. Only the request words of format
`REQ16`, 16 bits, decode. -/
def decodeTableWord (nbits w : Nat) : Option Instr :=
  if nbits = 16 then (decode (BitVec.ofNat 16 w)).toOption else none

/-! The wire format: one command byte sent with `DC = 0` and the data bytes that follow it, each sent with `DC = 1`
(30_encoding.md R74). -/

/-- A wire frame: a command byte and its data bytes. -/
structure WireFrame where
  command : Byte
  data : List Byte
  deriving DecidableEq, Repr

/-- The bytes of a frame with the `DC` level each is sent at. -/
def WireFrame.bytes (f : WireFrame) : List (Level × Byte) := (false, f.command) :: f.data.map fun b => (true, b)

/-- The bytes of a sequence of frames. -/
def encodeWire (fs : List WireFrame) : List (Level × Byte) := fs.flatMap WireFrame.bytes

/-- The frames of a sequence of bytes, and the data bytes that stand before its first command byte. "A receiver tells
the length of a frame from the `DC` level of each byte, not from the bytes." -/
def decodeWire : List (Level × Byte) → List Byte × List WireFrame
  | [] => ([], [])
  | (true, b) :: rest => (b :: (decodeWire rest).1, (decodeWire rest).2)
  | (false, b) :: rest => ([], { command := b, data := (decodeWire rest).1 } :: (decodeWire rest).2)

end Sys2Proof
end

