-- ==== Sys2Proof/Config.lean ====
section
/-! DEFINITION. The configuration record `Cfg` (00_scope.md R6, R10), the values the spec leaves open (opaque
constants, nothing is known of them), and the configuration `State.reset` carries. -/

namespace Sys2Proof

/-- The two planes of the Frame Buffer (20_memory.md R50, R51). -/
inductive Plane
  /-- `FB_BLACK` -/
  | black
  /-- `FB_RED` -/
  | red
  deriving DecidableEq, Repr

/-- The instantiation-time record `Cfg` (00_scope.md R6, R10). No step changes it (70_reset_and_hazards.md R300). -/
structure Cfg where
  /-- `W`, logical pixel width. -/
  w : Nat
  /-- `H`, logical pixel height (controller RAM height). -/
  h : Nat
  /-- `M`, the configured blank margin in rows; 0 means none. -/
  m : Nat
  /-- `OPC_SWRESET` -/
  opcSwreset : Byte
  /-- `OPC_DRIVER_OUTPUT` -/
  opcDriverOutput : Byte
  /-- `OPC_DATA_ENTRY` -/
  opcDataEntry : Byte
  /-- `OPC_RAM_X_WINDOW` -/
  opcRamXWindow : Byte
  /-- `OPC_RAM_Y_WINDOW` -/
  opcRamYWindow : Byte
  /-- `OPC_BORDER` -/
  opcBorder : Byte
  /-- `OPC_TEMP_SENSOR` -/
  opcTempSensor : Byte
  /-- `OPC_UPDATE_CTRL1` -/
  opcUpdateCtrl1 : Byte
  /-- `OPC_RAM_X_COUNTER` -/
  opcRamXCounter : Byte
  /-- `OPC_RAM_Y_COUNTER` -/
  opcRamYCounter : Byte
  /-- `OPC_WRITE_RAM_RED` -/
  opcWriteRamRed : Byte
  /-- `OPC_WRITE_RAM_BLACK` -/
  opcWriteRamBlack : Byte
  /-- `OPC_UPDATE_CTRL2` -/
  opcUpdateCtrl2 : Byte
  /-- `OPC_ACTIVATE` -/
  opcActivate : Byte
  /-- `OPC_DEEP_SLEEP` -/
  opcDeepSleep : Byte
  /-- `OPC_LUT[t]`, `t = 0..7` -/
  opcLut : Vector Byte 8
  /-- `DOC_MODE`, third data byte of driver-output control. -/
  docMode : Byte
  /-- `DEM_DATA`, data byte of data-entry mode. -/
  demData : Byte
  /-- `BORDER_DATA`, data byte of border waveform. -/
  borderData : Byte
  /-- `TEMP_DATA`, data byte of temperature sensor select. -/
  tempData : Byte
  /-- `DUC1_DATA`, the `NDUC1 >= 1` data bytes of display-update-control. -/
  duc1Data : List Byte
  /-- `DUC2_FLAG`, data byte of display-update-control-2. -/
  duc2Flag : Byte
  /-- `LUT[t][i]`, the LUT ROM (20_memory.md R53). -/
  lut : Vector (Vector Byte 15) 8
  /-- `BUSY_IDLE_LEVEL`, the level of the busy line that means idle. -/
  busyIdleLevel : Level
  /-- `CS_ASSERT_LEVEL`, the level of the chip-select line that means asserted. -/
  csAssertLevel : Level
  /-- `WAIT_TIMEOUT`, the bound on busy samples in one wait. -/
  waitTimeout : Option Nat
  /-- `MARGIN_BOT_OPEN` -/
  marginBotOpen : Bool
  /-- `RED_ROW_SHIFTED` -/
  redRowShifted : Bool
  deriving DecidableEq, Repr

/-! The open parameters: no source gives their values (00_scope.md R10; DESIGN CHOICE, log entry 2). -/

opaque Config.opcSwreset : Byte
opaque Config.opcDriverOutput : Byte
opaque Config.opcDataEntry : Byte
opaque Config.opcRamXWindow : Byte
opaque Config.opcRamYWindow : Byte
opaque Config.opcBorder : Byte
opaque Config.opcTempSensor : Byte
opaque Config.opcUpdateCtrl1 : Byte
opaque Config.opcRamXCounter : Byte
opaque Config.opcRamYCounter : Byte
opaque Config.opcWriteRamRed : Byte
opaque Config.opcWriteRamBlack : Byte
opaque Config.opcUpdateCtrl2 : Byte
opaque Config.opcActivate : Byte
opaque Config.opcDeepSleep : Byte
opaque Config.opcLut : Vector Byte 8
opaque Config.docMode : Byte
opaque Config.demData : Byte
opaque Config.borderData : Byte
opaque Config.tempData : Byte
opaque Config.duc1Byte : Byte
opaque Config.duc2Flag : Byte
opaque Config.lut : Vector (Vector Byte 15) 8
opaque Config.busyIdleLevel : Level

/-! The free values of a run. Each is applied to plain data of State, so that a claim about it holds
whatever it is. -/

/-- The level the panel answers to the `n`-th question put to the environment, where the state scripts none
(40_bus_transport.md R101, U11; DESIGN CHOICE, log entry 5). -/
opaque Config.panelAnswer : Nat → Level

/-- Whether the `n`-th question put to the environment, a byte transfer, is answered by a fault, where the state
scripts no answer (40_bus_transport.md R104, U12; DESIGN CHOICE, log entry 5). -/
opaque Config.busFaults : Nat → Bool

/-- Which of the bytes a raced location has held the `n`-th question reads (20_memory.md R66, U8; DEDUCED, log entry 7). -/
opaque Config.racePick : Nat → Nat

/-- What a byte of a plane holds that nothing has written since the `k`-th reset of the block
(20_memory.md R50; DESIGN CHOICE, log entry 8). -/
opaque Config.planeAtReset : Nat → Plane → Nat → Byte

/-- The configuration `State.reset` carries: the only one the source gives values for, `W = 128, H = 296, M = 6`
(00_scope.md R6), the defaults of R10 (that of `CS_ASSERT_LEVEL` PRESUMED, log entry 3), one display-update-control byte
(DESIGN CHOICE, log entry 3), and the open constants above. -/
def Cfg.atReset : Cfg where
  w := 128
  h := 296
  m := 6
  opcSwreset := Config.opcSwreset
  opcDriverOutput := Config.opcDriverOutput
  opcDataEntry := Config.opcDataEntry
  opcRamXWindow := Config.opcRamXWindow
  opcRamYWindow := Config.opcRamYWindow
  opcBorder := Config.opcBorder
  opcTempSensor := Config.opcTempSensor
  opcUpdateCtrl1 := Config.opcUpdateCtrl1
  opcRamXCounter := Config.opcRamXCounter
  opcRamYCounter := Config.opcRamYCounter
  opcWriteRamRed := Config.opcWriteRamRed
  opcWriteRamBlack := Config.opcWriteRamBlack
  opcUpdateCtrl2 := Config.opcUpdateCtrl2
  opcActivate := Config.opcActivate
  opcDeepSleep := Config.opcDeepSleep
  opcLut := Config.opcLut
  docMode := Config.docMode
  demData := Config.demData
  borderData := Config.borderData
  tempData := Config.tempData
  duc1Data := [Config.duc1Byte]
  duc2Flag := Config.duc2Flag
  lut := Config.lut
  busyIdleLevel := Config.busyIdleLevel
  csAssertLevel := false
  waitTimeout := none
  marginBotOpen := true
  redRowShifted := true

end Sys2Proof
end

