-- ==== Sys2Proof/Machine/State.lean ====
section
/-! DEFINITION. The state of ESL-EPDC: the registers, latches and planes of the spec, the trace a model observes, and
the model's own fields that hold what the other agents do next. -/

namespace Sys2Proof.Machine

/-- The stored values of `PS` (10_state.md R22); `Busy` is a view and is never stored (R24). -/
inductive PanelState
  | uninit
  | idle
  | sleeping
  | fault
  deriving DecidableEq, Repr

/-- The values of `ERR` (10_state.md R25). -/
inductive ErrCode
  | none
  | busError
  | initError
  | timeout
  deriving DecidableEq, Repr

/-- The values of `REJ` (10_state.md R25). -/
inductive RejCode
  | none
  | illegalRequest
  | illegalState
  | engineBusy
  deriving DecidableEq, Repr

/-- The event alphabet of the trace (00_scope.md R11), under the spec's own letters. -/
inductive Event
  /-- `L(line, level)`: an output line driven to a level. -/
  | L (line : Line) (level : Level)
  /-- `B(v)`: one byte written on the serial bus. -/
  | B (v : Byte)
  /-- `S(level)`: one sample of the busy line. -/
  | S (level : Level)
  /-- `T(ms)`: one blocking delay of at least `ms` milliseconds. -/
  | T (ms : Nat)
  /-- `F`: one bus fault reported by the underlying transport. -/
  | F
  deriving DecidableEq, Repr

/-- One thing the host (or the block's reset input) does, between two engine steps. -/
inductive HostAct
  /-- A write of `REQ` (10_state.md R31). -/
  | writeReq (q : Half)
  /-- A read of `REQ`: reads return 0 (10_state.md R30). -/
  | readReq
  /-- A write of `STATUS`: ignored (10_state.md R30). -/
  | writeStatus (v : Half)
  /-- A read of `STATUS` (10_state.md R33). -/
  | readStatus
  /-- The rendering layer writes one byte of a plane (20_memory.md R61). -/
  | writePlane (p : Plane) (a : Nat) (v : Byte)
  /-- The host reads one byte of a plane (20_memory.md R61). -/
  | readPlane (p : Plane) (a : Nat)
  /-- Power-on or the reset input of the block (70_reset_and_hazards.md R280). -/
  | blockReset
  deriving DecidableEq, Repr

/-- Whose turn the next step is. -/
inductive Turn
  | engine
  | host (act : HostAct)
  deriving DecidableEq, Repr

/-- What a read of the host returned. -/
inductive HostRead
  /-- A 16-bit register. -/
  | register (v : Half)
  /-- A byte of a plane. -/
  | plane (v : Byte)
  deriving DecidableEq, Repr

/-- The outcome of one byte transfer, the answer of `bus()` (00_scope.md R5). -/
inductive BusAnswer
  | ok
  | fault
  deriving DecidableEq, Repr

/-- What an agent outside the block answers: first the scripted answers, then `after` for ever, and where `after` is
none a free value each time (00_scope.md R5, R37; DESIGN CHOICE, log entry 5). -/
structure Answers (α : Type) where
  script : List α
  after : Option α
  deriving DecidableEq, Repr

/-- The contents of one plane: the bytes written since the last block reset, addresses strictly rising. An unlisted
address has no written byte. -/
abbrev Memory := List Host.Cell

/-- Why the machine stops. From a state the invariant holds in, only a host access past the end of a plane stops. -/
inductive Fault
  /-- An access to a plane index that does not exist, `a >= N` (20_memory.md R50): raised by a host access of a plane
  and by `XFER` with an ill-formed operand. Safe: the spec gives such an access no effect
  (DESIGN CHOICE, log entry 12). -/
  | noPlaneByte (a : Nat)
  /-- An engine step with `OPR` holding no legal request word, so that `Prog` is not defined
  (30_encoding.md R79): raised by the engine's fetch. Safe: no state that a run reaches has it. -/
  | noProgram
  /-- An engine step with `SEQ` at or past the end of the program (30_encoding.md R78: "always a valid index"): raised by the
  engine's fetch. Safe: no state that a run reaches has it. -/
  | noMicroOp
  deriving DecidableEq, Repr

/-- Why the model gives a step no meaning. -/
inductive Refusal
  /-- An instruction the model does not yet give a meaning: raised by `exec`. Safe. -/
  | notModelled (mnemonic : String)
  /-- A configuration outside the ranges of 00_scope.md R8, which the spec gives no behaviour: raised by
  `step`. Safe. -/
  | illegalConfiguration
  deriving DecidableEq, Repr

/-- The state. -/
structure State where
  /-- `Cfg`, which no step changes (00_scope.md R6; DESIGN CHOICE, log entry 1). It holds the LUT ROM. -/
  cfg : Cfg
  /-- `OPR`: the request word of the operation in progress (10_state.md R20). -/
  opr : Half
  /-- `SEQ`: the index of the next micro-op (10_state.md R21). -/
  seq : Word
  /-- `POLLS`: the busy samples seen in the current wait (10_state.md R20). -/
  polls : Word
  /-- Model's own: how many times `POLLS` has wrapped in the current wait, so that the `n`-th busy sample is known for every
  bound `n` (41_framing_handshake_reset.md R123; DEDUCED, log entry 10). -/
  pollWraps : Nat
  /-- `RUN` (10_state.md R27). -/
  run : Bool
  /-- `PS` (10_state.md R22). -/
  ps : PanelState
  /-- `LASTBUSY` (10_state.md R24). -/
  lastBusy : Bool
  /-- `ERR` (10_state.md R25). -/
  err : ErrCode
  /-- `REJ` (10_state.md R25). -/
  rej : RejCode
  /-- `RST_L` (10_state.md R26). -/
  rstL : Level
  /-- `DC_L` (10_state.md R26). -/
  dcL : Level
  /-- `CS_L` (10_state.md R26). -/
  csL : Level
  /-- `FB_BLACK` (20_memory.md R50). -/
  fbBlack : Memory
  /-- `FB_RED` (20_memory.md R51). -/
  fbRed : Memory
  /-- The trace of wire events, oldest first (00_scope.md R11). -/
  trace : List Event
  /-- Model's own: whose turns the next steps are; when empty every turn is the engine's (DESIGN CHOICE, log entry 4). -/
  sched : List Turn
  /-- Model's own: what the host's reads have returned, oldest first (DESIGN CHOICE, log entry 4). -/
  hostReads : List HostRead
  /-- Model's own: the panel's answers to the coming samples (DESIGN CHOICE, log entry 5). -/
  panel : Answers Level
  /-- Model's own: the answers of the bus fault source to the coming transfers (DESIGN CHOICE, log entry 5). -/
  bus : Answers BusAnswer
  /-- Model's own: which value each coming read of a raced byte takes (DEDUCED, log entry 7). -/
  race : Answers Nat
  /-- Model's own: the bytes of `FB_BLACK` overwritten during the operation in progress, newest first
  (20_memory.md R66; DEDUCED, log entry 7). -/
  raced : List Host.Cell
  /-- Model's own: how many questions have been put to the environment, the argument of the free answers
  (DESIGN CHOICE, log entry 5). -/
  draws : Nat
  /-- Model's own: how many block resets there have been, an argument of the planes' free contents
  (DESIGN CHOICE, log entry 8). -/
  resets : Nat
  deriving DecidableEq, Repr

/-- The machine right after reset (10_state.md R36, 70_reset_and_hazards.md R280): nothing runs, nothing is scheduled,
and every answer of the environment is free. -/
def State.reset : State where
  cfg := Cfg.atReset
  opr := 0x0000#16
  seq := 0#32
  polls := 0#32
  pollWraps := 0
  run := false
  ps := .uninit
  lastBusy := false
  err := .none
  rej := .none
  rstL := true
  dcL := false
  csL := !Cfg.atReset.csAssertLevel
  fbBlack := []
  fbRed := []
  trace := []
  sched := []
  hostReads := []
  panel := { script := [], after := none }
  bus := { script := [], after := none }
  race := { script := [], after := none }
  raced := []
  draws := 0
  resets := 0

end Sys2Proof.Machine
end

