-- ==== Sys2Proof/Machine/Flags.lean ====
section
/-! DEFINITION. The status codes and the `STATUS` register (10_state.md R22, R24, R25, R32). -/

namespace Sys2Proof.Machine

/-- The encoding of a stored `PS` (10_state.md R22). -/
def PanelState.code : PanelState → BitVec 3
  | .uninit => 0
  | .idle => 1
  | .sleeping => 3
  | .fault => 4

/-- The encoding of the reported value `Busy` (10_state.md R22). -/
def busyCode : BitVec 3 := 2

/-- The encoding of `ERR` (10_state.md R25). -/
def ErrCode.code : ErrCode → BitVec 3
  | .none => 0
  | .busError => 1
  | .initError => 2
  | .timeout => 3

/-- The encoding of `REJ` (10_state.md R25). -/
def RejCode.code : RejCode → BitVec 2
  | .none => 0
  | .illegalRequest => 1
  | .illegalState => 2
  | .engineBusy => 3

/-- `PSTATE = if RUN = 1 and LASTBUSY = 1 then Busy else PS` (10_state.md R24). -/
def State.pstate (s : State) : BitVec 3 := if s.run && s.lastBusy then busyCode else s.ps.code

/-- `STATUS` (10_state.md R32): `[0] RUN`, `[3:1] PSTATE`, `[6:4] ERR`, `[8:7] REJ`, `[15:9]` read as 0. -/
def State.status (s : State) : Half :=
  0#7 ++ (s.rej.code ++ (s.err.code ++ (s.pstate ++ BitVec.ofBool s.run)))

/-- The panel state `SETPS` stores (41_framing_handshake_reset.md R129). -/
def panelStateOf : RestState → PanelState
  | .uninit => .uninit
  | .idle => .idle
  | .sleeping => .sleeping

end Sys2Proof.Machine
end

