-- ==== Sys2Proof/Machine/Memory.lean ====
section
/-! DEFINITION. The planes as memories: reading and writing one byte of the canonical list of written bytes. -/

namespace Sys2Proof.Machine

/-- The byte written at an address, none where nothing has been written. -/
def Memory.read : Memory → Nat → Option Byte
  | [], _ => none
  | (b, v) :: m, a => if a = b then some v else Memory.read m a

/-- Writes one byte, keeping the addresses strictly rising. -/
def Memory.write : Memory → Nat → Byte → Memory
  | [], a, v => [(a, v)]
  | (b, x) :: m, a, v =>
    if a < b then (a, v) :: (b, x) :: m
    else if a = b then (a, v) :: m
    else (b, x) :: Memory.write m a v

/-- The canonical form: addresses strictly rising. An unlisted address has no written byte, so no entry can equal what
an unlisted address reads as. -/
abbrev Memory.wf (m : Memory) : Prop := m.Pairwise fun x y => x.1 < y.1

/-- The written bytes of a plane. -/
def State.plane (s : State) : Plane → Memory
  | .black => s.fbBlack
  | .red => s.fbRed

/-- The byte `a` of a plane: the byte last written there, and where nothing has been written since the last block
reset the free value of DESIGN CHOICE, log entry 8 (20_memory.md R50: "contents at reset are unspecified"). -/
def State.planeByte (s : State) (p : Plane) (a : Nat) : Byte :=
  ((s.plane p).read a).getD (Config.planeAtReset s.resets p a)

/-- Stores a byte in a plane. -/
def State.storePlane (s : State) (p : Plane) (a : Nat) (v : Byte) : State :=
  match p with
  | .black => { s with fbBlack := s.fbBlack.write a v }
  | .red => { s with fbRed := s.fbRed.write a v }

end Sys2Proof.Machine
end

