-- ==== Sys2Proof/Machine/Ops.lean ====
section
/-! DEFINITION. The named operations every meaning is built from: the trace and the lines, the answers of the
environment, the abort of an operation (the one way an error is taken), the verdict on a request. -/

namespace Sys2Proof.Machine

/-- What a meaning answers. -/
abbrev Out := Host.Outcome State Fault Refusal

/-! The trace and the lines. -/

/-- `emit e`: appends an event to the trace (00_scope.md, Notation). -/
def State.emit (s : State) (e : Event) : State := { s with trace := s.trace ++ [e] }

/-- Writes the latch of an output line (10_state.md R26). -/
def State.latch (s : State) (line : Line) (level : Level) : State :=
  match line with
  | .rst => { s with rstL := level }
  | .dc => { s with dcL := level }
  | .cs => { s with csL := level }

/-- Drives an output line: its latch and the event `L(line, level)` (40_bus_transport.md R100). -/
def State.drive (s : State) (line : Line) (level : Level) : State := (s.latch line level).emit (.L line level)

/-- `SEQ <- SEQ + 1`. -/
def State.advance (s : State) : State := { s with seq := s.seq + 1 }

/-! The answers of the environment (00_scope.md R5). -/

/-- The next answer: the scripted one, else the standing one, else the free value. -/
def Answers.next {α : Type} (a : Answers α) (free : α) : α :=
  match a.script with
  | x :: _ => x
  | [] => a.after.getD free

/-- The answers that remain once one has been taken. -/
def Answers.rest {α : Type} (a : Answers α) : Answers α := { a with script := a.script.tail }

/-- The level the panel answers to the next sample of the busy line. -/
def State.busyLevel (s : State) : Level := s.panel.next (Config.panelAnswer s.draws)

/-- `sample()`: the panel has answered one sample, and `S(level)` is in the trace (40_bus_transport.md R101). -/
def State.sampled (s : State) : State :=
  ({ s with panel := s.panel.rest, draws := s.draws + 1 } : State).emit (.S s.busyLevel)

/-- The outcome of the next byte transfer. -/
def State.busAnswer (s : State) : BusAnswer :=
  s.bus.next (if Config.busFaults s.draws then .fault else .ok)

/-- `bus()`: the bus fault source has answered one transfer. -/
def State.askedBus (s : State) : State := { s with bus := s.bus.rest, draws := s.draws + 1 }

/-- The number that picks the value of the next read of a raced byte. -/
def State.raceAnswer (s : State) : Nat := s.race.next (Config.racePick s.draws)

/-- One read of a raced byte has been answered. -/
def State.askedRace (s : State) : State := { s with race := s.race.rest, draws := s.draws + 1 }

/-! Errors. There is no handler, no vector and no return: an abort stops the engine, and recovery is a new request
(60_exceptions.md R250, R253). -/

/-- `abort(code)` (60_exceptions.md R250): `ERR <- code; PS <- Fault; LASTBUSY <- 0; RUN <- 0`, and nothing else. -/
def State.abort (s : State) (code : ErrCode) : State :=
  { s with err := code, ps := .fault, lastBusy := false, run := false }

/-- The code of a bus fault: `InitError` when `OPR[15:12] = 0x4`, else `BusError` (40_bus_transport.md R104). -/
def State.busFaultCode (s : State) : ErrCode :=
  if s.opr.extractLsb' 12 4 = 0x4#4 then .initError else .busError

/-- The busy samples seen in the current wait: `POLLS`, and 2^32 for each time it has wrapped
(41_framing_handshake_reset.md R123; DEDUCED, log entry 10). -/
def State.busySamples (s : State) : Nat := 2 ^ 32 * s.pollWraps + s.polls.toNat

/-- `POLLS <- POLLS + 1`, 32 bits (10_state.md R20, 41_framing_handshake_reset.md R122). -/
def State.countSample (s : State) : State :=
  { s with polls := s.polls + 1, pollWraps := if s.polls = 0xFFFFFFFF then s.pollWraps + 1 else s.pollWraps }

/-- `POLLS <- 0` (41_framing_handshake_reset.md R123). -/
def State.clearPolls (s : State) : State := { s with polls := 0, pollWraps := 0 }

/-- Whether the busy sample just taken is the `n`-th of a wait bounded by `n`
(41_framing_handshake_reset.md R122, R123). -/
def State.timesOut (s : State) : Bool :=
  match s.cfg.waitTimeout with
  | none => false
  | some n => decide (n ≤ s.busySamples + 1)

/-! The verdict on a write of `REQ` (10_state.md R31). -/

/-- A refused write changes nothing but `REJ` (10_state.md R31, 60_exceptions.md R244). -/
def State.refuse (s : State) (verdict : RejCode) : State := { s with rej := verdict }

/-- The request word `q` is accepted (10_state.md R31). No byte of the Frame Buffer has been written during the new
operation yet. -/
def State.accept (s : State) (q : Half) : State :=
  { s.clearPolls with opr := q, seq := 0, lastBusy := false, err := .none, rej := .none, run := true, raced := [] }

/-- Whether an operation is accepted in `PS = Sleeping` and in `PS = Fault` too (60_exceptions.md R246). -/
def beginsWithResetPulse : Instr → Bool
  | .reset | .initPanel | .showSession _ => true
  | .waitIdle | .sendCommand _ | .sendData _ | .loadLut _ | .loadLutBw | .loadLutRed | .displayFrame _ _ _
  | .sleep | .clearToWhite | .reservedOp _ => false
  | .fSwreset | .fDriverOutput | .fDataEntry | .fRamXWindow | .fRamYWindow | .fBorder | .fTempSensor
  | .fUpdateCtrl1 | .fRamXCounter | .fRamYCounter | .fLut0Vcom | .fLut1White | .fLut2Black | .fLut3Gray1
  | .fLut4Gray2 | .fLut5Vcom1 | .fLut6Red0 | .fLut7Red1 | .fWriteRamRed _ | .fWriteRamBlack _
  | .fUpdateCtrl2 | .fActivate | .fDeepSleep => false
  | .setl _ _ | .dly _ | .xfer _ | .waiti | .setps _ | .endOp => false

/-- The acceptance guard (60_exceptions.md R246). -/
def permitted (i : Instr) (ps : PanelState) : Bool :=
  match ps with
  | .uninit | .idle => true
  | .sleeping | .fault => beginsWithResetPulse i

/-- The verdict on a write of a legal request word, the operation `i`: `EngineBusy`, then `IllegalState`, else
accepted (10_state.md R31, 60_exceptions.md R248). -/
def State.request (s : State) (i : Instr) : State :=
  if s.run then s.refuse .engineBusy
  else if permitted i s.ps then s.accept (wordOf i)
  else s.refuse .illegalState

/-- The verdict on a write of an illegal word: `EngineBusy`, then `IllegalRequest`
(10_state.md R31, 60_exceptions.md R248). -/
def State.requestIllegal (s : State) : State :=
  if s.run then s.refuse .engineBusy else s.refuse .illegalRequest

/-! The block reset and the Frame Buffer's owner. -/

/-- The block reset (10_state.md R36, 70_reset_and_hazards.md R280): every state element at its reset value, no event.
The contents of the planes are unspecified after it (DESIGN CHOICE, log entry 8). The trace, the configuration and what the other
agents do next are not state of the block and stay. -/
def State.blockReset (s : State) : State :=
  { s.clearPolls with
    opr := 0, seq := 0, run := false, ps := .uninit, lastBusy := false, err := .none, rej := .none,
    rstL := true, dcL := false, csL := !s.cfg.csAssertLevel,
    fbBlack := [], fbRed := [], raced := [], resets := s.resets + 1 }

/-- Whether the operation in progress reads `FB_BLACK`: `DISPLAY_FRAME` or `SHOW` (20_memory.md R66). -/
def State.transferring (s : State) : Bool :=
  s.run && (s.opr.extractLsb' 12 4 == 0x8#4 || s.opr.extractLsb' 12 4 == 0xB#4)

/-- The byte an overwritten location held is remembered while the operation in progress may still read it
(20_memory.md R66). -/
def State.recordRace (s : State) (a : Nat) : State :=
  if s.transferring then { s with raced := (a, s.planeByte .black a) :: s.raced } else s

/-- The host writes one byte of a plane. -/
def State.hostWrite (s : State) (p : Plane) (a : Nat) (v : Byte) : State :=
  match p with
  | .black => (s.recordRace a).storePlane .black a v
  | .red => s.storePlane .red a v

/-- What a read of the host returned is noted; a read changes nothing else (20_memory.md R60, 10_state.md R33;
DESIGN CHOICE, log entry 4). -/
def State.hostSaw (s : State) (r : HostRead) : State := { s with hostReads := s.hostReads ++ [r] }

end Sys2Proof.Machine
end

