-- ==== Sys2Proof/Machine/Derived.lean ====
section
/-! DEFINITION. Quantities derived from `Cfg` and the operands: sizes, computed operand bytes, and the margin
arithmetic of the bitplane transfer engine. -/

namespace Sys2Proof

/-- `lo8(x) = x mod 256` (00_scope.md, Notation). -/
def lo8 (x : Nat) : Byte := BitVec.ofNat 8 x

/-- `hi8(x) = (x div 256) mod 256` (00_scope.md, Notation). -/
def hi8 (x : Nat) : Byte := BitVec.ofNat 8 (x / 256)

/-- `BW = ceil(W/8) = (W + 7) div 8` (00_scope.md R7). -/
def Cfg.bw (c : Cfg) : Nat := (c.w + 7) / 8

/-- `N = BW * H`, the byte length of one plane (00_scope.md R7). -/
def Cfg.n (c : Cfg) : Nat := c.bw * c.h

/-- `VH = H - M`, the visible height (00_scope.md R7). -/
def Cfg.vh (c : Cfg) : Nat := c.h - c.m

/-- `MH = M div 2` (00_scope.md R7). -/
def Cfg.mh (c : Cfg) : Nat := c.m / 2

/-- The index in a plane of the byte that holds pixel `(x, y)` (20_memory.md R52). -/
def Cfg.pixelByte (c : Cfg) (x y : Nat) : Nat := y * c.bw + x / 8

/-- `Me`, the effective margin (44_frame_transfer.md R181). -/
def Cfg.effMargin (c : Cfg) (full : Bool) : Nat := if full then 0 else c.m

/-- `MHe = Me div 2` (44_frame_transfer.md R181). -/
def Cfg.marginHalf (c : Cfg) (full : Bool) : Nat := c.effMargin full / 2

/-- `VHe = H - Me` (44_frame_transfer.md R181). -/
def Cfg.visibleRows (c : Cfg) (full : Bool) : Nat := c.h - c.effMargin full

/-- `BOT`, the first row of the bottom margin (44_frame_transfer.md R181). -/
def Cfg.bottomRow (c : Cfg) (full : Bool) : Nat :=
  c.visibleRows full + c.marginHalf full + (if c.marginBotOpen then 1 else 0)

/-- `inMargin(r)` (44_frame_transfer.md R181). -/
def Cfg.inMargin (c : Cfg) (full : Bool) (r : Nat) : Bool :=
  decide (c.effMargin full ≠ 0) && (decide (r < c.marginHalf full) || decide (c.bottomRow full ≤ r))

/-- `RSH`, the row shift of the red pass (44_frame_transfer.md R181). -/
def Cfg.redShift (c : Cfg) (full : Bool) : Nat := if c.redRowShifted then c.marginHalf full else 0

/-- `redsrc(r, c)` (44_frame_transfer.md R183). -/
def Cfg.redSrc (c : Cfg) (full hl : Bool) (r col : Nat) : ByteSrc :=
  if c.inMargin full r then .imm (if hl then 0xFF#8 else 0x00#8)
  else .fbbn ((r - c.redShift full) * c.bw + col)

/-- `blacksrc(r, c)` (44_frame_transfer.md R185). -/
def Cfg.blackSrc (c : Cfg) (full : Bool) (r col : Nat) : ByteSrc :=
  if c.inMargin full r then .imm 0xFF#8
  else .fbb ((r - c.marginHalf full) * c.bw + col)

/-- The byte sources of one pass, rows outermost, columns innermost (44_frame_transfer.md R182, R184). -/
def Cfg.passSrcs (c : Cfg) (src : Nat → Nat → ByteSrc) : List ByteSrc :=
  (List.range c.h).flatMap fun r => (List.range c.bw).map fun col => src r col

/-- The data bytes of a `WRITE_RAM_RED` frame (30_encoding.md R75). -/
def Cfg.redFill (c : Cfg) : RedFill → List ByteSrc
  | .picture full hl => c.passSrcs (c.redSrc full hl)
  | .zeros => List.replicate c.n (.imm 0x00#8)

/-- The data bytes of a `WRITE_RAM_BLACK` frame (30_encoding.md R75). -/
def Cfg.blackFill (c : Cfg) : BlackFill → List ByteSrc
  | .picture full => c.passSrcs (c.blackSrc full)
  | .ones => List.replicate c.n (.imm 0xFF#8)

/-- `OPC_LUT[t]` (43_lut_upload.md R160). -/
def Cfg.lutOpcode (c : Cfg) (t : BitVec 3) : Byte := c.opcLut.get t.toFin

/-- `LUT[t][i]` (20_memory.md R53). -/
def Cfg.lutByte (c : Cfg) (t : BitVec 3) (i : Fin 15) : Byte := (c.lut.get t.toFin).get i

/-- The 15 data bytes of the frame of LUT register `t`, in increasing order (43_lut_upload.md R161). -/
def lutSrcs (t : BitVec 3) : List ByteSrc := (List.finRange 15).map fun i => .lutb t i

end Sys2Proof
end

