-- ==== Sys2Proof/WellFormed.lean ====
section
/-! DEFINITION. The checks on a configuration (00_scope.md R8) and on an instruction's operands. -/

namespace Sys2Proof

/-- The ranges a configuration must meet (00_scope.md R8, R10): `1 <= W <= 2048`, `1 <= H <= 65536`, `0 <= M < H`,
`NDUC1 >= 1`, `WAIT_TIMEOUT` none or at least 1; and a program of `INITIALIZE` short enough that `SEQ` never wraps
(10_state.md R21; DEDUCED, log entry 9). -/
def Cfg.wf (c : Cfg) : Bool :=
  decide (1 ≤ c.w) && decide (c.w ≤ 2048) && decide (1 ≤ c.h) && decide (c.h ≤ 65536) && decide (c.m < c.h)
    && decide (1 ≤ c.duc1Data.length) && decide (60 + 2 * c.duc1Data.length ≤ 2 ^ 32)
    && decide (∀ n ∈ c.waitTimeout, 1 ≤ n)

/-- The index of a plane source lies in the plane (40_bus_transport.md R103). -/
def ByteSrc.wf (c : Cfg) : ByteSrc → Bool
  | .imm _ => true
  | .fbb a => decide (a < c.n)
  | .fbbn a => decide (a < c.n)
  | .lutb _ _ => true

/-- The operands of an instruction lie in the ranges the spec gives them. Every range but a plane index is kept by
the operand's type. -/
def Instr.wf (c : Cfg) : Instr → Bool
  | .xfer src => src.wf c
  | .waitIdle | .sendCommand _ | .sendData _ | .reset | .initPanel | .loadLut _ | .loadLutBw | .loadLutRed
  | .displayFrame _ _ _ | .sleep | .clearToWhite | .showSession _ | .reservedOp _ => true
  | .fSwreset | .fDriverOutput | .fDataEntry | .fRamXWindow | .fRamYWindow | .fBorder | .fTempSensor
  | .fUpdateCtrl1 | .fRamXCounter | .fRamYCounter | .fLut0Vcom | .fLut1White | .fLut2Black | .fLut3Gray1
  | .fLut4Gray2 | .fLut5Vcom1 | .fLut6Red0 | .fLut7Red1 | .fWriteRamRed _ | .fWriteRamBlack _
  | .fUpdateCtrl2 | .fActivate | .fDeepSleep => true
  | .setl _ _ | .dly _ | .waiti | .setps _ | .endOp => true

end Sys2Proof
end

