-- ==== Sys2Proof/Machine/Operands.lean ====
section
/-! DEFINITION. The byte sources of a transfer: `Imm`, `FBB`, `FBBN`, `LUTB` (40_bus_transport.md R103), read at the step that
emits the byte (20_memory.md R62). -/

namespace Sys2Proof.Machine

/-- The bytes location `a` of `FB_BLACK` has held before, during the operation in progress. -/
def State.oldBytes (s : State) (a : Nat) : List Byte :=
  (s.raced.filter fun c => c.1 == a).map fun c => c.2

/-- The byte the engine reads at `FB_BLACK[a]`: the byte stored there, and at a location written during the operation
any byte it has held in it, a free choice for each read (20_memory.md R66). -/
def State.blackByte (s : State) (a : Nat) : Byte :=
  if s.oldBytes a = [] then s.planeByte .black a
  else (s.planeByte .black a :: s.oldBytes a).getD (s.raceAnswer % (s.oldBytes a).length.succ) (s.planeByte .black a)

/-- A read of a raced location takes one answer of the race. -/
def State.readBlack (s : State) (a : Nat) : State := if s.oldBytes a = [] then s else s.askedRace

/-- The byte a source names. -/
def State.srcByte (s : State) : ByteSrc → Byte
  | .imm b => b
  | .fbb a => s.blackByte a
  | .fbbn a => ~~~s.blackByte a
  | .lutb t i => s.cfg.lutByte t i

/-- The state once the source has been read. -/
def State.readSrc (s : State) : ByteSrc → State
  | .imm _ => s
  | .fbb a => s.readBlack a
  | .fbbn a => s.readBlack a
  | .lutb _ _ => s

/-- The plane index a source names, where it names one. -/
def srcIndex : ByteSrc → Nat
  | .imm _ => 0
  | .fbb a => a
  | .fbbn a => a
  | .lutb _ _ => 0

end Sys2Proof.Machine
end

