-- ==== Sys2Proof/Machine/Uops.lean ====
section
/-! DEFINITION. The effect of each micro-op, and a list of micro-ops run one after another. -/

namespace Sys2Proof.Machine

/-- `SETL(line, level)` (40_bus_transport.md R100). -/
def opSetl (line : Line) (level : Level) (s : State) : Out := .next (s.drive line level).advance

/-- `DLY(ms)` (40_bus_transport.md R102): a marker with a lower bound; there is no clock. -/
def opDly (ms : Nat) (s : State) : Out := .next (s.emit (.T ms)).advance

/-- The chip-select bracket around one event, contiguous in the trace (40_bus_transport.md R103, R104). -/
def State.bracket (s : State) (e : Event) : State :=
  ((s.drive .cs s.cfg.csAssertLevel).emit e).drive .cs (!s.cfg.csAssertLevel)

/-- A transfer that the bus fault source answers `ok` (40_bus_transport.md R103). -/
def State.sendByte (s : State) (src : ByteSrc) : State :=
  ((s.readSrc src).bracket (.B (s.srcByte src))).advance

/-- A transfer that it answers `fault` (40_bus_transport.md R104). -/
def State.sendFault (s : State) : State := (s.bracket .F).abort s.busFaultCode

/-- `XFER(src)` (40_bus_transport.md R103, R104). An index outside the plane is no operand of `XFER`. -/
def opXfer (src : ByteSrc) (s : State) : Out :=
  if src.wf s.cfg then
    match s.busAnswer with
    | .ok => .next (s.askedBus.sendByte src)
    | .fault => .next s.askedBus.sendFault
  else .fault (.noPlaneByte (srcIndex src))

/-- The wait is over: the idle level was sampled (41_framing_handshake_reset.md R122). -/
def State.waitDone (s : State) : State := ({ s.clearPolls with lastBusy := false } : State).advance

/-- The busy level was sampled: abort at the bound, else sample again at the next step
(41_framing_handshake_reset.md R122, R123). -/
def State.waitBusy (s : State) : State :=
  if s.timesOut then ({ s with lastBusy := true } : State).abort .timeout
  else { s.countSample with lastBusy := true }

/-- `WAITI`, one engine step (41_framing_handshake_reset.md R122). -/
def opWaiti (s : State) : Out :=
  if s.busyLevel = s.cfg.busyIdleLevel then .next s.sampled.waitDone else .next s.sampled.waitBusy

/-- `SETPS(s)` (41_framing_handshake_reset.md R129). -/
def opSetps (ps : RestState) (s : State) : Out := .next ({ s with ps := panelStateOf ps } : State).advance

/-- `END` (41_framing_handshake_reset.md R130). -/
def opEnd (s : State) : Out := .next { s with run := false }

/-- The effect of a micro-op. -/
def runUop : Uop → State → Out
  | .setl line level, s => opSetl line level s
  | .dly ms, s => opDly ms s
  | .xfer src, s => opXfer src s
  | .waiti, s => opWaiti s
  | .setps ps, s => opSetps ps s
  | .endOp, s => opEnd s

/-- A list of micro-ops, one engine step each; when `RUN = 0` the engine has no step, so an abort ends it
(30_encoding.md R78, 60_exceptions.md R251). -/
def runUops : List Uop → State → Out
  | [], s => .next s
  | u :: us, s =>
    if s.run then
      match runUop u s with
      | .next s' => runUops us s'
      | .fault r => .fault r
      | .refused r => .refused r
    else .next s

end Sys2Proof.Machine
end

