-- ==== Sys2Proof/Machine/Handshake.lean ====
section
/-! DEFINITION. The busy-line handshake, the bookkeeping micro-ops, and the host operations `WAIT_IDLE`,
`SEND_COMMAND`, `SEND_DATA`, `RESET` (41_framing_handshake_reset.md). The meaning of a host operation is the verdict on
its write of `REQ` (10_state.md R31; DESIGN CHOICE, log entry 13); accepted, the engine runs its program step by step (30_encoding.md R78, R79). -/

namespace Sys2Proof.Machine

/-- `WAITI`, R122. -/
def execWaiti (s : State) : Out := opWaiti s

/-- `SETPS(s)`, R129. -/
def execSetps (ps : RestState) (s : State) : Out := opSetps ps s

/-- `END`, R130. -/
def execEnd (s : State) : Out := opEnd s

/-- `WAIT_IDLE`, R127. -/
def execWaitIdle (s : State) : Out := .next (s.request .waitIdle)

/-- `SEND_COMMAND opcode`, R125. -/
def execSendCommand (opcode : Byte) (s : State) : Out := .next (s.request (.sendCommand opcode))

/-- `SEND_DATA byte`, R126. -/
def execSendData (byte : Byte) (s : State) : Out := .next (s.request (.sendData byte))

/-- `RESET`, R128. -/
def execReset (s : State) : Out := .next (s.request .reset)

/-- The reserved range of the request word: refused, never executed (30_encoding.md R81, R82). -/
def execReservedOp (_x : BitVec 14) (s : State) : Out := .next s.requestIllegal

end Sys2Proof.Machine
end

