-- ==== Sys2Proof/Machine/Prog.lean ====
section
/-! DEFINITION. `Prog`: the micro-op list of every request, a pure function of the request and `Cfg`
(30_encoding.md R79), built from the wire frames of 30_encoding.md R75. -/

namespace Sys2Proof.Machine

/-- `CMD(o)` (30_encoding.md R80). -/
def cmd (o : Byte) : List Uop := [.setl .dc false, .xfer (.imm o)]

/-- `DAT(s)` (30_encoding.md R80). -/
def dat (src : ByteSrc) : List Uop := [.setl .dc true, .xfer src]

/-- A wire frame: one command byte and its data bytes, each its own chip-select bracket (30_encoding.md R74). -/
def frame (o : Byte) (data : List ByteSrc) : List Uop := cmd o ++ data.flatMap dat

/-! The wire frames (30_encoding.md R75). -/

def frameSwreset (c : Cfg) : List Uop := frame c.opcSwreset []

def frameDriverOutput (c : Cfg) : List Uop :=
  frame c.opcDriverOutput [.imm (lo8 (c.h - 1)), .imm (hi8 (c.h - 1)), .imm c.docMode]

def frameDataEntry (c : Cfg) : List Uop := frame c.opcDataEntry [.imm c.demData]

def frameRamXWindow (c : Cfg) : List Uop := frame c.opcRamXWindow [.imm 0x00#8, .imm (lo8 (c.bw - 1))]

def frameRamYWindow (c : Cfg) : List Uop :=
  frame c.opcRamYWindow [.imm 0x00#8, .imm 0x00#8, .imm (lo8 (c.h - 1)), .imm (hi8 (c.h - 1))]

def frameBorder (c : Cfg) : List Uop := frame c.opcBorder [.imm c.borderData]

def frameTempSensor (c : Cfg) : List Uop := frame c.opcTempSensor [.imm c.tempData]

def frameUpdateCtrl1 (c : Cfg) : List Uop := frame c.opcUpdateCtrl1 (c.duc1Data.map ByteSrc.imm)

def frameRamXCounter (c : Cfg) : List Uop := frame c.opcRamXCounter [.imm 0x00#8]

def frameRamYCounter (c : Cfg) : List Uop := frame c.opcRamYCounter [.imm (lo8 (c.h - 1)), .imm (hi8 (c.h - 1))]

/-- `LUT_SEQ(t)` (43_lut_upload.md R161). -/
def frameLut (c : Cfg) (t : BitVec 3) : List Uop := frame (c.lutOpcode t) (lutSrcs t)

def frameWriteRamRed (c : Cfg) (fill : RedFill) : List Uop := frame c.opcWriteRamRed (c.redFill fill)

def frameWriteRamBlack (c : Cfg) (fill : BlackFill) : List Uop := frame c.opcWriteRamBlack (c.blackFill fill)

def frameUpdateCtrl2 (c : Cfg) : List Uop := frame c.opcUpdateCtrl2 [.imm c.duc2Flag]

def frameActivate (c : Cfg) : List Uop := frame c.opcActivate []

def frameDeepSleep (c : Cfg) : List Uop := frame c.opcDeepSleep [.imm 0x01#8]

/-! The programs. -/

/-- `RESET_SEQ` (41_framing_handshake_reset.md R128). -/
def resetSeq : List Uop := [.setl .rst false, .dly 200, .setl .rst true, .dly 200, .setps .uninit]

/-- `INIT_SEQ`: the eleven steps, in exact order (42_initialize.md R140 to R151). -/
def initSeq (c : Cfg) : List Uop :=
  (resetSeq ++ [.waiti])                                   -- step 1, R141
    ++ (frameSwreset c ++ [.waiti])                        -- step 2, R142
    ++ frameDriverOutput c                                 -- step 3, R143
    ++ frameDataEntry c                                    -- step 4, R144
    ++ frameRamXWindow c                                   -- step 5, R145
    ++ frameRamYWindow c                                   -- step 6, R146
    ++ frameBorder c                                       -- step 7, R147
    ++ frameTempSensor c                                   -- step 8, R148
    ++ frameUpdateCtrl1 c                                  -- step 9, R149
    ++ (frameRamXCounter c ++ frameRamYCounter c)          -- step 10, R150
    ++ [.waiti]                                            -- step 11, R151
    ++ [.setps .idle]

/-- `RED_PASS` (44_frame_transfer.md R182). -/
def redPass (c : Cfg) (full hl : Bool) : List Uop := frameWriteRamRed c (.picture full hl)

/-- `BLACK_PASS` (44_frame_transfer.md R184). -/
def blackPass (c : Cfg) (full : Bool) : List Uop := frameWriteRamBlack c (.picture full)

/-- `ACT_SEQ` (44_frame_transfer.md R186). -/
def actSeq (c : Cfg) : List Uop := frameUpdateCtrl2 c ++ frameActivate c ++ [.waiti]

/-- Whether a mode performs the red pass (44_frame_transfer.md R182). -/
def sendsRed : UpdateMode → Bool
  | .both => true
  | .blackOnly => false
  | .redOnly => true

/-- Whether a mode performs the black pass (44_frame_transfer.md R184). -/
def sendsBlack : UpdateMode → Bool
  | .both => true
  | .blackOnly => true
  | .redOnly => false

/-- `FRAME_SEQ(mode, full, hl)` (44_frame_transfer.md R187). -/
def frameSeq (c : Cfg) (mode : UpdateMode) (full hl : Bool) : List Uop :=
  (if sendsRed mode then redPass c full hl else [])
    ++ (if sendsBlack mode then blackPass c full else [])
    ++ actSeq c

/-- `SLEEP_SEQ` (45_sleep_clear.md R210). -/
def sleepSeq (c : Cfg) : List Uop := frameDeepSleep c ++ [.dly 100, .setps .sleeping]

/-- `CLEAR_SEQ` (45_sleep_clear.md R212). -/
def clearSeq (c : Cfg) : List Uop := frameWriteRamBlack c .ones ++ frameWriteRamRed c .zeros ++ actSeq c

/-- `SHOW_SEQ(alarm)` (46_display_session.md R225). -/
def showSeq (c : Cfg) (alarm : Bool) : List Uop :=
  resetSeq ++ [.waiti] ++ frameSeq c .both false alarm ++ sleepSeq c

/-- `Body(q)` of the operation a request word decodes to (30_encoding.md R79); no other row has a program. -/
def body (c : Cfg) : Instr → Option (List Uop)
  | .waitIdle => some [.waiti]
  | .sendCommand opcode => some (cmd opcode)
  | .sendData byte => some (dat (.imm byte))
  | .reset => some resetSeq
  | .initPanel => some (initSeq c)
  | .loadLut t => some (frameLut c t)
  | .loadLutBw => some (frameLut c 0 ++ frameLut c 1 ++ frameLut c 2 ++ frameLut c 3 ++ frameLut c 4)
  | .loadLutRed => some (frameLut c 5 ++ frameLut c 6 ++ frameLut c 7)
  | .displayFrame mode full hl => some (frameSeq c mode full hl)
  | .sleep => some (sleepSeq c)
  | .clearToWhite => some (clearSeq c)
  | .showSession alarm => some (showSeq c alarm)
  | .reservedOp _ => none
  | .fSwreset | .fDriverOutput | .fDataEntry | .fRamXWindow | .fRamYWindow | .fBorder | .fTempSensor
  | .fUpdateCtrl1 | .fRamXCounter | .fRamYCounter | .fLut0Vcom | .fLut1White | .fLut2Black | .fLut3Gray1
  | .fLut4Gray2 | .fLut5Vcom1 | .fLut6Red0 | .fLut7Red1 | .fWriteRamRed _ | .fWriteRamBlack _
  | .fUpdateCtrl2 | .fActivate | .fDeepSleep => none
  | .setl _ _ | .dly _ | .xfer _ | .waiti | .setps _ | .endOp => none

/-- The program of an operation: `Body ++ [END]` (30_encoding.md R79). -/
def program (c : Cfg) (i : Instr) : Option (List Uop) := (body c i).map fun us => us ++ [.endOp]

/-- `Prog(q)`, not defined for an illegal word (30_encoding.md R79). -/
def prog (c : Cfg) (q : Half) : Option (List Uop) :=
  match decode q with
  | .ok i => program c i
  | .error _ => none

end Sys2Proof.Machine
end

