-- ==== Sys2Proof/Machine/InitPanel.lean ====
section
/-! DEFINITION. `INITIALIZE` and the ten wire frames of its eleven steps (42_initialize.md). The meaning of a wire frame is its
transmission: the engine steps of its command byte and of its data bytes, one after another (DESIGN CHOICE, log entry 11). -/

namespace Sys2Proof.Machine

/-- `INITIALIZE`, R140. -/
def execInitialize (s : State) : Out := .next (s.request .initPanel)

/-- `F_SWRESET`, R142. -/
def execFSwreset (s : State) : Out := runUops (frameSwreset s.cfg) s

/-- `F_DRIVER_OUTPUT`, R143. -/
def execFDriverOutput (s : State) : Out := runUops (frameDriverOutput s.cfg) s

/-- `F_DATA_ENTRY`, R144. -/
def execFDataEntry (s : State) : Out := runUops (frameDataEntry s.cfg) s

/-- `F_RAM_X_WINDOW`, R145. -/
def execFRamXWindow (s : State) : Out := runUops (frameRamXWindow s.cfg) s

/-- `F_RAM_Y_WINDOW`, R146. -/
def execFRamYWindow (s : State) : Out := runUops (frameRamYWindow s.cfg) s

/-- `F_BORDER`, R147. -/
def execFBorder (s : State) : Out := runUops (frameBorder s.cfg) s

/-- `F_TEMP_SENSOR`, R148. -/
def execFTempSensor (s : State) : Out := runUops (frameTempSensor s.cfg) s

/-- `F_UPDATE_CTRL1`, R149. -/
def execFUpdateCtrl1 (s : State) : Out := runUops (frameUpdateCtrl1 s.cfg) s

/-- `F_RAM_X_COUNTER`, R150. -/
def execFRamXCounter (s : State) : Out := runUops (frameRamXCounter s.cfg) s

/-- `F_RAM_Y_COUNTER`, R150. -/
def execFRamYCounter (s : State) : Out := runUops (frameRamYCounter s.cfg) s

end Sys2Proof.Machine
end

