-- ==== Sys2Proof/Machine/Lut.lean ====
section
/-! DEFINITION. The waveform LUT upload sequencer: `LOAD_LUT`, `LOAD_LUT_BW`, `LOAD_LUT_RED` and the eight LUT frames, table
ids 0 to 7 (43_lut_upload.md R160). -/

namespace Sys2Proof.Machine

/-- `LOAD_LUT t`, R161. -/
def execLoadLut (t : BitVec 3) (s : State) : Out := .next (s.request (.loadLut t))

/-- `LOAD_LUT_BW`, R162. -/
def execLoadLutBw (s : State) : Out := .next (s.request .loadLutBw)

/-- `LOAD_LUT_RED`, R163. -/
def execLoadLutRed (s : State) : Out := .next (s.request .loadLutRed)

/-- `F_LUT0_VCOM`, R161. -/
def execFLut0Vcom (s : State) : Out := runUops (frameLut s.cfg 0) s

/-- `F_LUT1_WHITE`, R161. -/
def execFLut1White (s : State) : Out := runUops (frameLut s.cfg 1) s

/-- `F_LUT2_BLACK`, R161. -/
def execFLut2Black (s : State) : Out := runUops (frameLut s.cfg 2) s

/-- `F_LUT3_GRAY1`, R161. -/
def execFLut3Gray1 (s : State) : Out := runUops (frameLut s.cfg 3) s

/-- `F_LUT4_GRAY2`, R161. -/
def execFLut4Gray2 (s : State) : Out := runUops (frameLut s.cfg 4) s

/-- `F_LUT5_VCOM1`, R161. -/
def execFLut5Vcom1 (s : State) : Out := runUops (frameLut s.cfg 5) s

/-- `F_LUT6_RED0`, R161. -/
def execFLut6Red0 (s : State) : Out := runUops (frameLut s.cfg 6) s

/-- `F_LUT7_RED1`, R161. -/
def execFLut7Red1 (s : State) : Out := runUops (frameLut s.cfg 7) s

end Sys2Proof.Machine
end

