-- ==== Sys2Proof/Machine/Transfer.lean ====
section
/-! DEFINITION. The bitplane transfer engine: `DISPLAY_FRAME` and its frames (44_frame_transfer.md); `SLEEP`, `CLEAR_TO_WHITE` and
the deep-sleep frame (45_sleep_clear.md); the Display Session `SHOW` (46_display_session.md). -/

namespace Sys2Proof.Machine

/-- `DISPLAY_FRAME mode full hl`, R187. -/
def execDisplayFrame (mode : UpdateMode) (full hl : Bool) (s : State) : Out :=
  .next (s.request (.displayFrame mode full hl))

/-- `SLEEP`, R210. -/
def execSleep (s : State) : Out := .next (s.request .sleep)

/-- `CLEAR_TO_WHITE`, R212. -/
def execClearToWhite (s : State) : Out := .next (s.request .clearToWhite)

/-- `SHOW alarm`, R225. -/
def execShow (alarm : Bool) (s : State) : Out := .next (s.request (.showSession alarm))

/-- `F_WRITE_RAM_RED`, R182, R212. -/
def execFWriteRamRed (fill : RedFill) (s : State) : Out := runUops (frameWriteRamRed s.cfg fill) s

/-- `F_WRITE_RAM_BLACK`, R184, R212. -/
def execFWriteRamBlack (fill : BlackFill) (s : State) : Out := runUops (frameWriteRamBlack s.cfg fill) s

/-- `F_UPDATE_CTRL2`, R186. -/
def execFUpdateCtrl2 (s : State) : Out := runUops (frameUpdateCtrl2 s.cfg) s

/-- `F_ACTIVATE`, R186. -/
def execFActivate (s : State) : Out := runUops (frameActivate s.cfg) s

/-- `F_DEEP_SLEEP`, R210. -/
def execFDeepSleep (s : State) : Out := runUops (frameDeepSleep s.cfg) s

end Sys2Proof.Machine
end

