-- ==== Sys2Proof/Machine/Transport.lean ====
section
/-! DEFINITION. The micro-ops of the Bus Transport as instructions (40_bus_transport.md). -/

namespace Sys2Proof.Machine

/-- `SETL(line, level)`, R100. -/
def execSetl (line : Line) (level : Level) (s : State) : Out := opSetl line level s

/-- `DLY(ms)`, R102. -/
def execDly (ms : Nat) (s : State) : Out := opDly ms s

/-- `XFER(src)`, R103 and R104. -/
def execXfer (src : ByteSrc) (s : State) : Out := opXfer src s

end Sys2Proof.Machine
end

