-- ==== Sys2Proof/Machine/Dispatch.lean ====
section
/-! DEFINITION. One arm for each row of spec/opcode_table.json. -/

namespace Sys2Proof.Machine

def exec (i : Instr) (s : State) : Host.Outcome State Fault Refusal :=
  match i with
  | .waitIdle => Sys2Proof.Machine.execWaitIdle s
  | .sendCommand opcode => Sys2Proof.Machine.execSendCommand opcode s
  | .sendData byte => Sys2Proof.Machine.execSendData byte s
  | .reset => Sys2Proof.Machine.execReset s
  | .initPanel => Sys2Proof.Machine.execInitialize s
  | .loadLut table => Sys2Proof.Machine.execLoadLut table s
  | .loadLutBw => Sys2Proof.Machine.execLoadLutBw s
  | .loadLutRed => Sys2Proof.Machine.execLoadLutRed s
  | .displayFrame mode full hl => Sys2Proof.Machine.execDisplayFrame mode full hl s
  | .sleep => Sys2Proof.Machine.execSleep s
  | .clearToWhite => Sys2Proof.Machine.execClearToWhite s
  | .showSession alarm => Sys2Proof.Machine.execShow alarm s
  | .reservedOp x => Sys2Proof.Machine.execReservedOp x s
  | .fSwreset => Sys2Proof.Machine.execFSwreset s
  | .fDriverOutput => Sys2Proof.Machine.execFDriverOutput s
  | .fDataEntry => Sys2Proof.Machine.execFDataEntry s
  | .fRamXWindow => Sys2Proof.Machine.execFRamXWindow s
  | .fRamYWindow => Sys2Proof.Machine.execFRamYWindow s
  | .fBorder => Sys2Proof.Machine.execFBorder s
  | .fTempSensor => Sys2Proof.Machine.execFTempSensor s
  | .fUpdateCtrl1 => Sys2Proof.Machine.execFUpdateCtrl1 s
  | .fRamXCounter => Sys2Proof.Machine.execFRamXCounter s
  | .fRamYCounter => Sys2Proof.Machine.execFRamYCounter s
  | .fLut0Vcom => Sys2Proof.Machine.execFLut0Vcom s
  | .fLut1White => Sys2Proof.Machine.execFLut1White s
  | .fLut2Black => Sys2Proof.Machine.execFLut2Black s
  | .fLut3Gray1 => Sys2Proof.Machine.execFLut3Gray1 s
  | .fLut4Gray2 => Sys2Proof.Machine.execFLut4Gray2 s
  | .fLut5Vcom1 => Sys2Proof.Machine.execFLut5Vcom1 s
  | .fLut6Red0 => Sys2Proof.Machine.execFLut6Red0 s
  | .fLut7Red1 => Sys2Proof.Machine.execFLut7Red1 s
  | .fWriteRamRed fill => Sys2Proof.Machine.execFWriteRamRed fill s
  | .fWriteRamBlack fill => Sys2Proof.Machine.execFWriteRamBlack fill s
  | .fUpdateCtrl2 => Sys2Proof.Machine.execFUpdateCtrl2 s
  | .fActivate => Sys2Proof.Machine.execFActivate s
  | .fDeepSleep => Sys2Proof.Machine.execFDeepSleep s
  | .setl line level => Sys2Proof.Machine.execSetl line level s
  | .dly ms => Sys2Proof.Machine.execDly ms s
  | .xfer src => Sys2Proof.Machine.execXfer src s
  | .waiti => Sys2Proof.Machine.execWaiti s
  | .setps ps => Sys2Proof.Machine.execSetps ps s
  | .endOp => Sys2Proof.Machine.execEnd s

end Sys2Proof.Machine
end

