-- ==== Sys2Proof/Machine/Fetch.lean ====
section
/-! DEFINITION. What the next step does: the instruction it runs, or the host's action. The engine fetches the micro-op
`Prog(OPR)[SEQ]` (30_encoding.md R78); a write of `REQ` presents a request word (10_state.md R31). -/

namespace Sys2Proof.Machine

/-- What a step has fetched. -/
inductive Fetched
  /-- An instruction, and the state it runs in. -/
  | instr (i : Instr) (s : State)
  /-- No instruction: the outcome of the step. -/
  | done (o : Out)

/-- `Prog(OPR)` (30_encoding.md R79). -/
def State.program (s : State) : Option (List Uop) := prog s.cfg s.opr

/-- `Prog(OPR)[SEQ]` (30_encoding.md R78). -/
def State.currentUop (s : State) : Option Uop := s.program.bind fun p => p[s.seq.toNat]?

/-- The engine's turn: one micro-op when `RUN = 1`; when `RUN = 0` it has no step and nothing changes
(30_encoding.md R78; DESIGN CHOICE, log entry 4). -/
def fetchEngine (s : State) : Fetched :=
  if s.run then
    match s.program with
    | none => .done (.fault .noProgram)
    | some p =>
      match p[s.seq.toNat]? with
      | none => .done (.fault .noMicroOp)
      | some u => .instr u.instr s
  else .done (.next s)

/-- The host's turn. A legal word, and one of the reserved range, is an instruction; the other illegal words are
refused here (30_encoding.md R81). A read of a plane returns the byte stored there; that it does so in `FB_BLACK` also
while `RUN = 1`, where 20_memory.md R61 gives the host no access and no rule says what a read returns, is the model's choice
(DESIGN CHOICE, log entry 17), and so is what a write there then does (DEDUCED, log entry 7). An access past the end of a
plane stops (DESIGN CHOICE, log entry 12). -/
def fetchHost (act : HostAct) (s : State) : Fetched :=
  match act with
  | .writeReq q =>
    match decode q with
    | .ok i => .instr i s
    | .error _ => .done (.next s.requestIllegal)
  | .readReq => .done (.next (s.hostSaw (.register 0)))
  | .writeStatus _ => .done (.next s)
  | .readStatus => .done (.next (s.hostSaw (.register s.status)))
  | .writePlane p a v => .done (if a < s.cfg.n then .next (s.hostWrite p a v) else .fault (.noPlaneByte a))
  | .readPlane p a => .done (if a < s.cfg.n then .next (s.hostSaw (.plane (s.planeByte p a))) else .fault (.noPlaneByte a))
  | .blockReset => .done (.next s.blockReset)

/-- The turn is taken. -/
def State.turnTaken (s : State) : State := { s with sched := s.sched.tail }

/-- The next step's turn; a configuration outside its ranges has no behaviour (00_scope.md R8). -/
def fetch (s : State) : Fetched :=
  if s.cfg.wf then
    match s.sched with
    | [] => fetchEngine s
    | .engine :: _ => fetchEngine s.turnTaken
    | .host act :: _ => fetchHost act s.turnTaken
  else .done (.refused .illegalConfiguration)

end Sys2Proof.Machine
end

