-- ==== Sys2Proof/Machine/Step.lean ====
section
/-! DEFINITION. One step of the machine, and the placing of a request word where the next step takes it. -/

namespace Sys2Proof.Machine

/-- One step: fetch, then run the instruction fetched. -/
def step (s : State) : Host.Outcome State Fault Refusal :=
  match fetch s with
  | .instr i s' => exec i s'
  | .done o => o

/-- The host writes the 16-bit word `w` to `REQ` at the next step (DESIGN CHOICE, log entry 4: a program is a sequence of host
actions). Only words of format `REQ16` are fetched from outside the block. -/
def State.withFetchWord (s : State) (nbits w : Nat) : State :=
  if nbits = 16 then { s with sched := .host (.writeReq (BitVec.ofNat 16 w)) :: s.sched } else s

end Sys2Proof.Machine
end

