-- ==== Sys2Proof/Safety.lean ====
section
/-! DEFINITION. The terms the claims are stated in: the end of a run, answers without a fault and without a wait,
the events of a micro-op, the bytes a trace carries, and the invariant every step keeps. -/

namespace Sys2Proof.Machine

/-- A successful end of a run: `RUN = 0` and `ERR = 0` (00_scope.md R13). It says nothing of the panel. -/
def State.endedWell (s : State) : Prop := s.run = false ∧ s.err = .none

/-- Every coming answer is `x`. -/
def Answers.Always {α : Type} (a : Answers α) (x : α) : Prop := (∀ y ∈ a.script, y = x) ∧ a.after = some x

/-- "No transfer of this operation faults" (70_reset_and_hazards.md R306). -/
def State.NoFault (s : State) : Prop := s.bus.Always .ok

/-- The panel answers idle at every sample, the strongest form of the fairness premise
(70_reset_and_hazards.md R306). -/
def State.PanelIdle (s : State) : Prop := s.panel.Always s.cfg.busyIdleLevel

/-- The panel answers busy at every sample: the busy line is stuck (70_reset_and_hazards.md R296). -/
def State.PanelStuck (s : State) : Prop := s.panel.Always (!s.cfg.busyIdleLevel)

/-- The byte a source puts on the wire where no byte of the plane is raced. -/
def State.wireByte (s : State) : ByteSrc → Byte
  | .imm b => b
  | .fbb a => s.planeByte .black a
  | .fbbn a => 255 - s.planeByte .black a
  | .lutb t i => s.cfg.lutByte t i

/-- `C(v)` of the trace shorthand (00_scope.md, Notation). -/
def commandEvents (c : Cfg) (v : Byte) : List Event :=
  [.L .dc false, .L .cs c.csAssertLevel, .B v, .L .cs (!c.csAssertLevel)]

/-- `D(v)` of the trace shorthand (00_scope.md, Notation). -/
def dataEvents (c : Cfg) (v : Byte) : List Event :=
  [.L .dc true, .L .cs c.csAssertLevel, .B v, .L .cs (!c.csAssertLevel)]

/-- The events of one wire frame: its command byte and its data bytes (30_encoding.md R74). -/
def frameEvents (c : Cfg) (command : Byte) (data : List Byte) : List Event :=
  commandEvents c command ++ data.flatMap (dataEvents c)

/-- The events of a micro-op whose transfer does not fault and whose wait is answered idle at once. -/
def State.uopEvents (s : State) : Uop → List Event
  | .setl line level => [.L line level]
  | .dly ms => [.T ms]
  | .xfer src => [.L .cs s.cfg.csAssertLevel, .B (s.wireByte src), .L .cs (!s.cfg.csAssertLevel)]
  | .waiti => [.S s.cfg.busyIdleLevel]
  | .setps _ => []
  | .endOp => []

/-- The panel state after the successful end of an operation that found `ps` (10_state.md R28). -/
def endState (i : Instr) (ps : PanelState) : PanelState :=
  match i with
  | .reset => .uninit
  | .initPanel => .idle
  | .sleep | .showSession _ => .sleeping
  | .waitIdle | .sendCommand _ | .sendData _ | .loadLut _ | .loadLutBw | .loadLutRed | .displayFrame _ _ _
  | .clearToWhite | .reservedOp _ => ps
  | .fSwreset | .fDriverOutput | .fDataEntry | .fRamXWindow | .fRamYWindow | .fBorder | .fTempSensor
  | .fUpdateCtrl1 | .fRamXCounter | .fRamYCounter | .fLut0Vcom | .fLut1White | .fLut2Black | .fLut3Gray1
  | .fLut4Gray2 | .fLut5Vcom1 | .fLut6Red0 | .fLut7Red1 | .fWriteRamRed _ | .fWriteRamBlack _
  | .fUpdateCtrl2 | .fActivate | .fDeepSleep => ps
  | .setl _ _ | .dly _ | .xfer _ | .waiti | .setps _ | .endOp => ps

/-- The bytes of a trace, each with the level of `DC` it was sent at, `dc` being the level before the first event. -/
def wireBytes (dc : Level) : List Event → List (Level × Byte)
  | [] => []
  | .L .dc level :: es => wireBytes level es
  | .L .rst _ :: es => wireBytes dc es
  | .L .cs _ :: es => wireBytes dc es
  | .B v :: es => (dc, v) :: wireBytes dc es
  | .S _ :: es => wireBytes dc es
  | .T _ :: es => wireBytes dc es
  | .F :: es => wireBytes dc es

/-- A micro-op that transfers a byte (30_encoding.md R77). -/
def isTransfer : Uop → Bool
  | .xfer _ => true
  | .setl _ _ | .dly _ | .waiti | .setps _ | .endOp => false

/-- The milliseconds of a delay. -/
def delayOf : Uop → Option Nat
  | .dly ms => some ms
  | .setl _ _ | .xfer _ | .waiti | .setps _ | .endOp => none

/-- The panel state a `SETPS` stores. -/
def storedState : Uop → Option RestState
  | .setps ps => some ps
  | .setl _ _ | .dly _ | .xfer _ | .waiti | .endOp => none

/-- The twelve host operations (30_encoding.md R72). -/
def isOperation : Instr → Bool
  | .waitIdle | .sendCommand _ | .sendData _ | .reset | .initPanel | .loadLut _ | .loadLutBw | .loadLutRed
  | .displayFrame _ _ _ | .sleep | .clearToWhite | .showSession _ => true
  | .reservedOp _ => false
  | .fSwreset | .fDriverOutput | .fDataEntry | .fRamXWindow | .fRamYWindow | .fBorder | .fTempSensor
  | .fUpdateCtrl1 | .fRamXCounter | .fRamYCounter | .fLut0Vcom | .fLut1White | .fLut2Black | .fLut3Gray1
  | .fLut4Gray2 | .fLut5Vcom1 | .fLut6Red0 | .fLut7Red1 | .fWriteRamRed _ | .fWriteRamBlack _
  | .fUpdateCtrl2 | .fActivate | .fDeepSleep => false
  | .setl _ _ | .dly _ | .xfer _ | .waiti | .setps _ | .endOp => false

/-- The twenty-three wire frames (30_encoding.md R75) as the micro-ops they stand for; no other row is a frame. -/
def frameUops (c : Cfg) : Instr → Option (List Uop)
  | .fSwreset => some (frameSwreset c)
  | .fDriverOutput => some (frameDriverOutput c)
  | .fDataEntry => some (frameDataEntry c)
  | .fRamXWindow => some (frameRamXWindow c)
  | .fRamYWindow => some (frameRamYWindow c)
  | .fBorder => some (frameBorder c)
  | .fTempSensor => some (frameTempSensor c)
  | .fUpdateCtrl1 => some (frameUpdateCtrl1 c)
  | .fRamXCounter => some (frameRamXCounter c)
  | .fRamYCounter => some (frameRamYCounter c)
  | .fLut0Vcom => some (frameLut c 0)
  | .fLut1White => some (frameLut c 1)
  | .fLut2Black => some (frameLut c 2)
  | .fLut3Gray1 => some (frameLut c 3)
  | .fLut4Gray2 => some (frameLut c 4)
  | .fLut5Vcom1 => some (frameLut c 5)
  | .fLut6Red0 => some (frameLut c 6)
  | .fLut7Red1 => some (frameLut c 7)
  | .fWriteRamRed fill => some (frameWriteRamRed c fill)
  | .fWriteRamBlack fill => some (frameWriteRamBlack c fill)
  | .fUpdateCtrl2 => some (frameUpdateCtrl2 c)
  | .fActivate => some (frameActivate c)
  | .fDeepSleep => some (frameDeepSleep c)
  | .waitIdle | .sendCommand _ | .sendData _ | .reset | .initPanel | .loadLut _ | .loadLutBw | .loadLutRed
  | .displayFrame _ _ _ | .sleep | .clearToWhite | .showSession _ | .reservedOp _ => none
  | .setl _ _ | .dly _ | .xfer _ | .waiti | .setps _ | .endOp => none

/-- A byte a source may deliver: at a raced location any byte it has held during the operation
(20_memory.md R66). -/
def State.mayDeliver (s : State) (src : ByteSrc) (v : Byte) : Prop :=
  match src with
  | .imm b => v = b
  | .fbb a => v ∈ s.planeByte .black a :: s.oldBytes a
  | .fbbn a => 255 - v ∈ s.planeByte .black a :: s.oldBytes a
  | .lutb t i => v = s.cfg.lutByte t i

/-- The instruction sends a wire frame whole, with this command byte and these data bytes, and changes nothing but the
trace, `SEQ`, the latches of `DC` and `CS`, and the answers it has taken from the environment: one of the bus for each
byte, and one of the race for each raced byte it read. -/
def State.SendsFrame (s : State) (i : Instr) (command : Byte) (data : List Byte) : Prop :=
  ∃ racedReads ≤ data.length,
    exec i s = .next { s with
      trace := s.trace ++ frameEvents s.cfg command data
      seq := s.seq + BitVec.ofNat 32 (2 + 2 * data.length)
      dcL := !data.isEmpty
      csL := !s.cfg.csAssertLevel
      bus := { s.bus with script := s.bus.script.drop (1 + data.length) }
      race := { s.race with script := s.race.script.drop racedReads }
      draws := s.draws + (1 + data.length) + racedReads }

/-- Whether the next step is the engine's turn (an empty schedule gives every turn to the engine). -/
def State.engineTurn (s : State) : Prop := s.sched = [] ∨ ∃ rest, s.sched = .engine :: rest

/-- A plane in canonical form, every index inside the plane (20_memory.md R50). -/
def Memory.inPlane (c : Cfg) (m : Memory) : Prop := m.wf ∧ ∀ x ∈ m, x.1 < c.n

/-- The invariant every step keeps. -/
structure Inv (s : State) : Prop where
  /-- The configuration is one the spec gives a behaviour (00_scope.md R8). -/
  config : s.cfg.wf = true
  /-- The black plane is in canonical form. -/
  black : Memory.inPlane s.cfg s.fbBlack
  /-- The red plane is in canonical form. -/
  red : Memory.inPlane s.cfg s.fbRed
  /-- Between two steps chip-select is released (40_bus_transport.md R103, R104). -/
  released : s.csL = !s.cfg.csAssertLevel
  /-- While `RUN = 1`, `OPR` holds a legal word and `SEQ` is a valid index of its program (30_encoding.md R78). -/
  running : s.run = true → ∃ p, s.program = some p ∧ s.seq.toNat < p.length
  /-- `LASTBUSY = 1` only inside a `WAITI` (10_state.md R24). -/
  waiting : s.lastBusy = true → s.run = true ∧ s.currentUop = some .waiti
  /-- An error code is held only by an aborted operation (60_exceptions.md R250, R255). -/
  aborted : s.err ≠ .none → s.run = false ∧ s.ps = .fault
  /-- `PS = Fault` is held at rest only with the code of the abort, and while `RUN = 1` only before a `SETPS` of the
  program (10_state.md R28). -/
  faulted : s.ps = .fault → (s.run = false ∧ s.err ≠ .none) ∨
    (s.run = true ∧ ∃ p ps, s.program = some p ∧ Uop.setps ps ∈ p.drop s.seq.toNat)
  /-- A bounded wait has seen fewer busy samples than its bound (41_framing_handshake_reset.md R123). -/
  bounded : ∀ n, s.cfg.waitTimeout = some n → s.busySamples < n

end Sys2Proof.Machine
end

