-- ==== Sys2Proof/Certificates/Slice0/Obligations.lean ====
section
/-! DEFINITION. The statements for the provers. Each docstring names the rule or the section of spec/ it formalises. -/

open Sys2Proof Sys2Proof.Machine

/-! Encodings. -/

/-- 30_encoding.md, sections 1 and 4: every request word, with every operand, decodes to the operation it encodes. -/
def Obligations.DecodeReadsBackEveryRequest : Prop :=
  ∀ (i : Instr) (w : Half), requestWord i = some w → decode w = .ok i

/-- 30_encoding.md, section 1: a word has one meaning, and no bit of it is dropped. -/
def Obligations.EveryDecodedWordIsItsEncoding : Prop :=
  ∀ (w : Half) (i : Instr), decode w = .ok i → requestWord i = some w

/-- 30_encoding.md, section 1 ("In all, the legal words are: ..."): the words that decode to one of the twelve
operations are the listed ones. -/
def Obligations.LegalWordsAreTheListedOnes : Prop :=
  ∀ q : Half, (∃ i, decode q = .ok i ∧ isOperation i = true) ↔
    (q = 0x0000 ∨ (0x1000 ≤ q ∧ q ≤ 0x10FF) ∨ (0x2000 ≤ q ∧ q ≤ 0x20FF) ∨ q = 0x3000 ∨ q = 0x4000 ∨
      (0x5000 ≤ q ∧ q ≤ 0x5007) ∨ q = 0x6000 ∨ q = 0x7000 ∨
      (0x8000 ≤ q ∧ q ≤ 0x800F ∧ q ≠ 0x8003 ∧ q ≠ 0x8007 ∧ q ≠ 0x800B ∧ q ≠ 0x800F) ∨
      q = 0x9000 ∨ q = 0xA000 ∨ q = 0xB000 ∨ q = 0xB001)

/-- Words written out from 30_encoding.md, section 1, with the examples of the spec: `SEND_COMMAND 0x12`,
`SEND_DATA 0xAB`, `LOAD_LUT 3`, `DISPLAY_FRAME mode=0 full=0 hl=1`, `SHOW alarm=1`, and three words that are none. -/
def Obligations.SampleWordsDecode : Prop :=
  decode 0x1012 = .ok (.sendCommand 0x12) ∧ decode 0x20AB = .ok (.sendData 0xAB) ∧
    decode 0x5003 = .ok (.loadLut 3) ∧ decode 0x8008 = .ok (.displayFrame .both false true) ∧
    decode 0xB001 = .ok (.showSession true) ∧ decode 0x8003 = .error .noUpdateMode ∧
    decode 0x0100 = .error .reservedBits ∧ decode 0x5008 = .error .reservedArg

/-- 30_encoding.md, section 2: the `DC` levels alone split a sequence of bytes into its frames. -/
def Obligations.WireFramesReadBack : Prop :=
  ∀ (lead : List Byte) (fs : List WireFrame),
    decodeWire ((lead.map fun b => (true, b)) ++ encodeWire fs) = (lead, fs)

/-- 30_encoding.md, section 2: the events of a frame carry its bytes, and a receiver that sees only the bytes and the level of `DC` of
each reads the frame back, whatever the level of `DC` was before. -/
def Obligations.FrameEventsReadBackAsTheFrame : Prop :=
  ∀ (c : Cfg) (dc : Level) (command : Byte) (data : List Byte),
    decodeWire (wireBytes dc (frameEvents c command data)) = ([], [{ command := command, data := data }])

/-! The step. -/

/-- 10_state.md, section 4: a write of `REQ` whose word decodes runs that instruction. -/
def Obligations.StepRunsTheRequestWritten : Prop :=
  ∀ (s : State) (q : Half) (i : Instr) (rest : List Turn), s.cfg.wf = true → s.sched = .host (.writeReq q) :: rest →
    decode q = .ok i → step s = exec i { s with sched := rest }

/-- "One step: `u <- Prog(OPR)[SEQ]`; execute `u` by its rule" (30_encoding.md, section 3). -/
def Obligations.StepRunsTheMicroOpAtSeq : Prop :=
  ∀ (s : State) (p : List Uop) (u : Uop), s.cfg.wf = true → s.engineTurn → s.run = true → s.program = some p →
    p[s.seq.toNat]? = some u → step s = exec u.instr { s with sched := s.sched.tail }

/-- The engine has no step when `RUN = 0` (30_encoding.md, section 3). That its turn then passes with nothing changed is the
model's choice, log entry 4. -/
def Obligations.EngineTurnAtRestChangesNothing : Prop :=
  ∀ s : State, s.cfg.wf = true → s.engineTurn → s.run = false → step s = .next { s with sched := s.sched.tail }

/-- "else the model refuses the configuration (no behaviour is given)" (00_scope.md, section 4): every configuration outside the
ranges written out there is refused, and every configuration inside them passes the check the other statements assume. The bound on
the length of `DUC1_DATA` is the model's (log entry 9). -/
def Obligations.IllegalConfigurationIsRefused : Prop :=
  ∀ s : State,
    let c := s.cfg
    let outOfRange := c.w = 0 ∨ 2048 < c.w ∨ c.h = 0 ∨ 65536 < c.h ∨ c.h ≤ c.m ∨ c.duc1Data = [] ∨ c.waitTimeout = some 0
    let longerThanSeq := 2 ^ 32 < 60 + 2 * c.duc1Data.length
    (outOfRange ∨ longerThanSeq → step s = .refused .illegalConfiguration) ∧
      (¬ outOfRange → ¬ longerThanSeq → c.wf = true ∧ step s ≠ .refused .illegalConfiguration)

/-- 30_encoding.md, section 1, 60_exceptions.md, section 3: an illegal word outside the reserved `OP` codes changes nothing but
`REJ`, `EngineBusy` first. -/
def Obligations.IllegalWordSetsRejAlone : Prop :=
  ∀ (s : State) (q : Half) (e : DecodeError) (rest : List Turn), s.cfg.wf = true →
    s.sched = .host (.writeReq q) :: rest → decode q = .error e →
    step s = .next { s with sched := rest, rej := if s.run then .engineBusy else .illegalRequest }

/-! The twelve host operations. -/

/-- 10_state.md, section 4: at rest, in `Uninit` and `Idle`, each operation is accepted with its word in `OPR`. Its word is
written out from 30_encoding.md, section 1. The bytes noted as raced and the wraps of `POLLS` are the model's own (log entries 7 and 10). -/
def Obligations.OperationsAreAcceptedInUninitAndIdle : Prop :=
  ∀ s : State, s.run = false → (s.ps = .uninit ∨ s.ps = .idle) →
    let accepted : Half → Out := fun w => .next { s with
      opr := w, seq := 0, polls := 0, pollWraps := 0, lastBusy := false, err := .none, rej := .none, run := true, raced := [] }
    exec .waitIdle s = accepted 0x0000 ∧
    (∀ o : Byte, exec (.sendCommand o) s = accepted (0x1000 + o.setWidth 16)) ∧
    (∀ b : Byte, exec (.sendData b) s = accepted (0x2000 + b.setWidth 16)) ∧
    exec .reset s = accepted 0x3000 ∧
    exec .initPanel s = accepted 0x4000 ∧
    (∀ t : BitVec 3, exec (.loadLut t) s = accepted (0x5000 + t.setWidth 16)) ∧
    exec .loadLutBw s = accepted 0x6000 ∧
    exec .loadLutRed s = accepted 0x7000 ∧
    (∀ full hl : Bool,
      exec (.displayFrame .both full hl) s =
        accepted (0x8000 + (if full then 4 else 0) + (if hl then 8 else 0)) ∧
      exec (.displayFrame .blackOnly full hl) s =
        accepted (0x8001 + (if full then 4 else 0) + (if hl then 8 else 0)) ∧
      exec (.displayFrame .redOnly full hl) s =
        accepted (0x8002 + (if full then 4 else 0) + (if hl then 8 else 0))) ∧
    exec .sleep s = accepted 0x9000 ∧
    exec .clearToWhite s = accepted 0xA000 ∧
    (∀ alarm : Bool, exec (.showSession alarm) s = accepted (0xB000 + (if alarm then 1 else 0)))

/-- 60_exceptions.md, section 1: `RESET`, `INITIALIZE` and `SHOW` are accepted at rest in every panel state. The bytes noted as raced
and the wraps of `POLLS` are the model's own (log entries 7 and 10). -/
def Obligations.PulseOperationsAreAcceptedInEveryState : Prop :=
  ∀ s : State, s.run = false →
    let accepted : Half → Out := fun w => .next { s with
      opr := w, seq := 0, polls := 0, pollWraps := 0, lastBusy := false, err := .none, rej := .none, run := true, raced := [] }
    exec .reset s = accepted 0x3000 ∧ exec .initPanel s = accepted 0x4000 ∧
    (∀ alarm : Bool, exec (.showSession alarm) s = accepted (0xB000 + (if alarm then 1 else 0)))

/-- 60_exceptions.md, section 1: every other operation is refused with `IllegalState` in `Sleeping` and in `Fault`, and changes
nothing but `REJ`. -/
def Obligations.DataOperationsAreRefusedInSleepingAndFault : Prop :=
  ∀ s : State, s.run = false → (s.ps = .sleeping ∨ s.ps = .fault) →
    let refused : Out := .next { s with rej := .illegalState }
    exec .waitIdle s = refused ∧ (∀ o : Byte, exec (.sendCommand o) s = refused) ∧
    (∀ b : Byte, exec (.sendData b) s = refused) ∧ (∀ t : BitVec 3, exec (.loadLut t) s = refused) ∧
    exec .loadLutBw s = refused ∧ exec .loadLutRed s = refused ∧
    (∀ mode full hl, exec (.displayFrame mode full hl) s = refused) ∧ exec .sleep s = refused ∧
    exec .clearToWhite s = refused

/-- 60_exceptions.md, sections 1 and 3: while `RUN = 1` every request, one of the reserved range too, is refused with
`EngineBusy`, and the operation in progress is undisturbed. -/
def Obligations.RequestsWhileRunningAreRefused : Prop :=
  ∀ (s : State) (i : Instr), s.run = true → (isOperation i = true ∨ ∃ x, i = .reservedOp x) →
    exec i s = .next { s with rej := .engineBusy }

/-- 30_encoding.md, section 1: a word with `OP` from `0xC` to `0xF` is refused with `IllegalRequest`, and none executes as a
no-operation. -/
def Obligations.ReservedRangeIsRefused : Prop :=
  ∀ (s : State) (x : BitVec 14), s.run = false → exec (.reservedOp x) s = .next { s with rej := .illegalRequest }

/-! The micro-ops. -/

/-- 40_bus_transport.md R100. -/
def Obligations.SetlDrivesItsLine : Prop :=
  ∀ (s : State) (level : Level),
    exec (.setl .rst level) s =
      .next { s with rstL := level, trace := s.trace ++ [.L .rst level], seq := s.seq + 1 } ∧
    exec (.setl .dc level) s =
      .next { s with dcL := level, trace := s.trace ++ [.L .dc level], seq := s.seq + 1 } ∧
    exec (.setl .cs level) s =
      .next { s with csL := level, trace := s.trace ++ [.L .cs level], seq := s.seq + 1 }

/-- 40_bus_transport.md, `DLY`. -/
def Obligations.DelayLeavesItsMarker : Prop :=
  ∀ (s : State) (ms : Nat), exec (.dly ms) s = .next { s with trace := s.trace ++ [.T ms], seq := s.seq + 1 }

/-- 40_bus_transport.md R103, where no byte of `FB_BLACK` is raced (the raced case is `RacedTransferSendsSomeHeldByte`). -/
def Obligations.TransferSendsTheByteNamed : Prop :=
  ∀ (s : State) (src : ByteSrc), src.wf s.cfg = true → s.raced = [] → s.busAnswer = .ok →
    exec (.xfer src) s = .next { s with
      trace := s.trace ++ [.L .cs s.cfg.csAssertLevel, .B (s.wireByte src), .L .cs (!s.cfg.csAssertLevel)]
      csL := !s.cfg.csAssertLevel
      seq := s.seq + 1
      bus := { s.bus with script := s.bus.script.tail }
      draws := s.draws + 1 }

/-- 20_memory.md, section 4 ("a race, read as a draw"): at a raced location a transfer sends a byte the location has held during
the operation, each of them for some answer of the race, and completes whatever the answer. -/
def Obligations.RacedTransferSendsSomeHeldByte : Prop :=
  ∀ (s : State) (src : ByteSrc), src.wf s.cfg = true → s.busAnswer = .ok →
    (∃ v t, exec (.xfer src) s = .next t ∧ s.mayDeliver src v ∧ t.seq = s.seq + 1 ∧
      t.trace = s.trace ++ [.L .cs s.cfg.csAssertLevel, .B v, .L .cs (!s.cfg.csAssertLevel)]) ∧
    (∀ v, s.mayDeliver src v → ∃ k t, exec (.xfer src) { s with race := { script := [k], after := none } } = .next t ∧
      t.trace = s.trace ++ [.L .cs s.cfg.csAssertLevel, .B v, .L .cs (!s.cfg.csAssertLevel)])

/-- 20_memory.md, section 1: the plane has `N` bytes, indexed from 0, so an index past them names none. That `XFER` of such an index
stops, and the name it stops under, are the model's choice (DESIGN CHOICE, log entry 12): the spec gives it no meaning. -/
def Obligations.TransferOutsideThePlaneStops : Prop :=
  ∀ (s : State) (a : Nat), s.cfg.n ≤ a →
    exec (.xfer (.fbb a)) s = .fault (.noPlaneByte a) ∧ exec (.xfer (.fbbn a)) s = .fault (.noPlaneByte a)

/-- 40_bus_transport.md, `XFER` failed, and 60_exceptions.md, section 4: a fault aborts the operation. That chip-select is
released is the spec's own choice (92_eei_decisions.md D24). -/
def Obligations.BusFaultAbortsTheOperation : Prop :=
  ∀ (s : State) (src : ByteSrc), src.wf s.cfg = true → s.busAnswer = .fault →
    exec (.xfer src) s = .next { s with
      trace := s.trace ++ [.L .cs s.cfg.csAssertLevel, .F, .L .cs (!s.cfg.csAssertLevel)]
      csL := !s.cfg.csAssertLevel
      err := if s.opr.extractLsb' 12 4 = 0x4#4 then .initError else .busError
      ps := .fault
      lastBusy := false
      run := false
      bus := { s.bus with script := s.bus.script.tail }
      draws := s.draws + 1 }

/-- 41_framing_handshake_reset.md R122: the three outcomes of one sample. `POLLS` has 32 bits; the samples of a wait are counted past
them in the model's own `pollWraps`, so that the bound may be any natural (log entry 10). -/
def Obligations.WaitTakesOneSample : Prop :=
  ∀ s : State,
    let seen := 2 ^ 32 * s.pollWraps + s.polls.toNat
    let sampled : Level → State := fun level => { s with
      trace := s.trace ++ [.S level], panel := { s.panel with script := s.panel.script.tail }, draws := s.draws + 1 }
    (s.busyLevel = s.cfg.busyIdleLevel →
      exec .waiti s = .next { sampled s.cfg.busyIdleLevel with lastBusy := false, polls := 0, pollWraps := 0, seq := s.seq + 1 }) ∧
    (s.busyLevel = (!s.cfg.busyIdleLevel) → (∀ n, s.cfg.waitTimeout = some n → seen + 1 < n) →
      exec .waiti s = .next { sampled (!s.cfg.busyIdleLevel) with
        lastBusy := true, polls := s.polls + 1
        pollWraps := if s.polls = 0xFFFFFFFF then s.pollWraps + 1 else s.pollWraps }) ∧
    (∀ n, s.busyLevel = (!s.cfg.busyIdleLevel) → s.cfg.waitTimeout = some n → n ≤ seen + 1 →
      exec .waiti s = .next { sampled (!s.cfg.busyIdleLevel) with
        err := .timeout, ps := .fault, lastBusy := false, run := false })

/-- 41_framing_handshake_reset.md, section 3. -/
def Obligations.SetpsStoresAndEndStops : Prop :=
  ∀ s : State,
    exec (.setps .uninit) s = .next { s with ps := .uninit, seq := s.seq + 1 } ∧
    exec (.setps .idle) s = .next { s with ps := .idle, seq := s.seq + 1 } ∧
    exec (.setps .sleeping) s = .next { s with ps := .sleeping, seq := s.seq + 1 } ∧
    exec .endOp s = .next { s with run := false }

/-! The twenty-three wire frames. -/

/-- 30_encoding.md, section 2, and 42_initialize.md: the ten frames of `INITIALIZE`, with the operand bytes computed from `W`
and `H`. -/
def Obligations.InitializationFramesAreSentWhole : Prop :=
  ∀ s : State, s.run = true → s.NoFault →
    let c := s.cfg
    let low : Byte := BitVec.ofNat 8 ((c.h - 1) % 256)
    let high : Byte := BitVec.ofNat 8 ((c.h - 1) / 256)
    s.SendsFrame .fSwreset c.opcSwreset [] ∧
    s.SendsFrame .fDriverOutput c.opcDriverOutput [low, high, c.docMode] ∧
    s.SendsFrame .fDataEntry c.opcDataEntry [c.demData] ∧
    s.SendsFrame .fRamXWindow c.opcRamXWindow [0x00, BitVec.ofNat 8 ((c.w + 7) / 8 - 1)] ∧
    s.SendsFrame .fRamYWindow c.opcRamYWindow [0x00, 0x00, low, high] ∧
    s.SendsFrame .fBorder c.opcBorder [c.borderData] ∧
    s.SendsFrame .fTempSensor c.opcTempSensor [c.tempData] ∧
    s.SendsFrame .fUpdateCtrl1 c.opcUpdateCtrl1 c.duc1Data ∧
    s.SendsFrame .fRamXCounter c.opcRamXCounter [0x00] ∧
    s.SendsFrame .fRamYCounter c.opcRamYCounter [low, high]

/-- 43_lut_upload.md, `LOAD_LUT`: the frame of LUT register `t` carries the 15 bytes of its table, unmodified, in order. -/
def Obligations.LutFramesAreSentWhole : Prop :=
  ∀ s : State, s.run = true → s.NoFault →
    let c := s.cfg
    s.SendsFrame .fLut0Vcom c.opcLut[0] c.lut[0].toList ∧
    s.SendsFrame .fLut1White c.opcLut[1] c.lut[1].toList ∧
    s.SendsFrame .fLut2Black c.opcLut[2] c.lut[2].toList ∧
    s.SendsFrame .fLut3Gray1 c.opcLut[3] c.lut[3].toList ∧
    s.SendsFrame .fLut4Gray2 c.opcLut[4] c.lut[4].toList ∧
    s.SendsFrame .fLut5Vcom1 c.opcLut[5] c.lut[5].toList ∧
    s.SendsFrame .fLut6Red0 c.opcLut[6] c.lut[6].toList ∧
    s.SendsFrame .fLut7Red1 c.opcLut[7] c.lut[7].toList

/-- 44_frame_transfer.md, sections 1 to 3, and 45_sleep_clear.md: the two plane frames where no byte of `FB_BLACK` is raced: the
margin rows constant, the other rows the black plane's bytes, complemented in the red pass, row-major. The margin arithmetic is
written out. -/
def Obligations.PlaneFramesAreSentWhole : Prop :=
  ∀ s : State, s.run = true → s.NoFault → s.raced = [] →
    let c := s.cfg
    let bw := (c.w + 7) / 8
    let margin : Bool → Nat := fun full => if full then 0 else c.m
    let half : Bool → Nat := fun full => margin full / 2
    let bottom : Bool → Nat := fun full => (c.h - margin full) + half full + (if c.marginBotOpen then 1 else 0)
    let rowMajor : (Nat → Nat → Byte) → List Byte := fun f =>
      (List.range c.h).flatMap fun r => (List.range bw).map fun k => f r k
    (∀ full hl : Bool,
      s.SendsFrame (.fWriteRamRed (.picture full hl)) c.opcWriteRamRed
        (rowMajor fun r k =>
          if margin full ≠ 0 ∧ (r < half full ∨ bottom full ≤ r) then (if hl then 0xFF else 0x00)
          else 255 - s.planeByte .black ((r - (if c.redRowShifted then half full else 0)) * bw + k))) ∧
    (∀ full : Bool,
      s.SendsFrame (.fWriteRamBlack (.picture full)) c.opcWriteRamBlack
        (rowMajor fun r k =>
          if margin full ≠ 0 ∧ (r < half full ∨ bottom full ≤ r) then 0xFF
          else s.planeByte .black ((r - half full) * bw + k))) ∧
    s.SendsFrame (.fWriteRamRed .zeros) c.opcWriteRamRed (List.replicate (bw * c.h) 0x00) ∧
    s.SendsFrame (.fWriteRamBlack .ones) c.opcWriteRamBlack (List.replicate (bw * c.h) 0xFF)

/-- 20_memory.md, section 4: the plane frames are sent whole also while bytes of `FB_BLACK` are raced, each data byte one that its
source may deliver. -/
def Obligations.RacedPlaneFramesAreSentWhole : Prop :=
  ∀ s : State, s.run = true → s.NoFault →
    (∀ fill : RedFill, ∃ data : List Byte, List.Forall₂ s.mayDeliver (s.cfg.redFill fill) data ∧
      s.SendsFrame (.fWriteRamRed fill) s.cfg.opcWriteRamRed data) ∧
    (∀ fill : BlackFill, ∃ data : List Byte, List.Forall₂ s.mayDeliver (s.cfg.blackFill fill) data ∧
      s.SendsFrame (.fWriteRamBlack fill) s.cfg.opcWriteRamBlack data)

/-- 44_frame_transfer.md, section 4, and 45_sleep_clear.md: the frames of the activation and of deep sleep. -/
def Obligations.ActivationAndSleepFramesAreSentWhole : Prop :=
  ∀ s : State, s.run = true → s.NoFault →
    s.SendsFrame .fUpdateCtrl2 s.cfg.opcUpdateCtrl2 [s.cfg.duc2Flag] ∧
    s.SendsFrame .fActivate s.cfg.opcActivate [] ∧
    s.SendsFrame .fDeepSleep s.cfg.opcDeepSleep [0x01]

/-- 40_bus_transport.md, `XFER` failed: a frame whose command byte faults sends nothing after it. -/
def Obligations.FaultAtTheCommandByteEndsTheFrame : Prop :=
  ∀ (s : State) (i : Instr) (us : List Uop), frameUops s.cfg i = some us → s.run = true → s.busAnswer = .fault →
    exec i s = .next { s with
      trace := s.trace ++ [.L .dc false, .L .cs s.cfg.csAssertLevel, .F, .L .cs (!s.cfg.csAssertLevel)]
      dcL := false
      csL := !s.cfg.csAssertLevel
      seq := s.seq + 1
      err := if s.opr.extractLsb' 12 4 = 0x4#4 then .initError else .busError
      ps := .fault
      lastBusy := false
      run := false
      bus := { s.bus with script := s.bus.script.tail }
      draws := s.draws + 1 }

/-- 30_encoding.md, sections 2 and 3: where the program of the operation in progress holds a frame's micro-ops at `SEQ`, running the
engine that many steps is the frame, faults and aborts included. -/
def Obligations.FrameIsItsEngineSteps : Prop :=
  ∀ (s : State) (i : Instr) (p us rest : List Uop), s.cfg.wf = true → s.sched = [] → s.run = true →
    s.program = some p → frameUops s.cfg i = some us → p.drop s.seq.toNat = us ++ rest →
    Sys2Proof.core.run us.length s = exec i s

/-! The programs. -/

/-- 42_initialize.md, 43_lut_upload.md, 44_frame_transfer.md, 45_sleep_clear.md, 46_display_session.md: the number of micro-ops of
every program, `END` included. -/
def Obligations.ProgramsHaveTheStatedLengths : Prop :=
  ∀ c : Cfg,
    let lengthIs : Instr → Nat → Prop := fun i n => ∃ p, program c i = some p ∧ p.length = n
    lengthIs .waitIdle 2 ∧ (∀ o, lengthIs (.sendCommand o) 3) ∧ (∀ b, lengthIs (.sendData b) 3) ∧
    lengthIs .reset 6 ∧ lengthIs .initPanel (60 + 2 * c.duc1Data.length) ∧ (∀ t, lengthIs (.loadLut t) 33) ∧
    lengthIs .loadLutBw 161 ∧ lengthIs .loadLutRed 97 ∧
    (∀ full hl, lengthIs (.displayFrame .both full hl) (4 * c.n + 12) ∧
      lengthIs (.displayFrame .blackOnly full hl) (2 * c.n + 10) ∧
      lengthIs (.displayFrame .redOnly full hl) (2 * c.n + 10)) ∧
    lengthIs .sleep 7 ∧ lengthIs .clearToWhite (4 * c.n + 12) ∧ (∀ alarm, lengthIs (.showSession alarm) (4 * c.n + 24))

/-- 44_frame_transfer.md R189: `N` data bytes in each pass whatever the margin; the command bytes, data bytes, waits and micro-ops
of `DISPLAY_FRAME` in each mode; and the totals of the source's scenario. -/
def Obligations.DisplayFrameSendsTheStatedCounts : Prop :=
  let commands : List Uop → Nat := fun us => us.countP fun u => decide (u = .setl .dc false)
  let dataBytes : List Uop → Nat := fun us => us.countP fun u => decide (u = .setl .dc true)
  let waits : List Uop → Nat := fun us => us.countP fun u => decide (u = .waiti)
  (∀ (c : Cfg) (full hl : Bool), dataBytes (redPass c full hl) = c.n ∧ dataBytes (blackPass c full) = c.n ∧ c.n = c.bw * c.h) ∧
  (∀ (c : Cfg) (mode : UpdateMode) (full hl : Bool) (p : List Uop), program c (.displayFrame mode full hl) = some p →
    p.countP isTransfer = commands p + dataBytes p ∧ waits p = 1 ∧
    (mode = .both → commands p = 4 ∧ dataBytes p = 2 * c.n + 1 ∧ p.length = 4 * c.n + 12) ∧
    (mode ≠ .both → commands p = 3 ∧ dataBytes p = c.n + 1 ∧ p.length = 2 * c.n + 10)) ∧
  (∀ c : Cfg, c.w = 128 → c.h = 296 →
    c.bw = 16 ∧ c.n = 4736 ∧ 2 * c.n = 9472 ∧ 4 + (2 * c.n + 1) = 9477 ∧ 4 * c.n + 12 = 18956)

/-- 44_frame_transfer.md R190: with no effective margin the black pass carries the plane's bytes in order, the red pass their
complements. -/
def Obligations.PassesRoundTripWithoutAMargin : Prop :=
  ∀ (s : State) (full hl : Bool), (full = true ∨ s.cfg.m = 0) →
    (s.cfg.blackFill (.picture full)).map s.wireByte = (List.range s.cfg.n).map (s.planeByte .black) ∧
    (s.cfg.redFill (.picture full hl)).map s.wireByte =
      (List.range s.cfg.n).map fun a => 255 - s.planeByte .black a

/-- 44_frame_transfer.md R191: the margin rows are constant, for both values of `MARGIN_BOT_OPEN`, and row `VH + MH` too when it is
false. -/
def Obligations.MarginRowsAreConstant : Prop :=
  ∀ (c : Cfg) (hl : Bool) (r k : Nat), c.m ≠ 0 → r < c.h →
    (r < c.mh ∨ c.vh + c.mh < r ∨ (c.marginBotOpen = false ∧ r = c.vh + c.mh)) →
    c.blackSrc false r k = .imm 0xFF ∧ c.redSrc false hl r k = .imm (if hl then 0xFF else 0x00)

/-- 20_memory.md, section 1 (layout of a plane), and 44_frame_transfer.md, sections 2 and 3: the byte of pixel `(x, y)` is the
`x / 8`-th of the `BW` bytes of row `y`, which stand from `y * BW` on; two pixels share a byte exactly where they are in one row and
one group of eight columns; and a pass sends, at that same position, the margin constant or the byte of the pixel in the same column
of the row it shows there, so that rows go outermost and columns innermost. -/
def Obligations.PixelsArePackedRowMajor : Prop :=
  ∀ (c : Cfg) (x y : Nat), x < c.w → y < c.h →
    let bw := (c.w + 7) / 8
    (c.pixelByte x y = y * bw + x / 8 ∧ x / 8 < bw ∧ c.pixelByte x y < bw * c.h) ∧
    (∀ x' y', x' < c.w → y' < c.h → (c.pixelByte x y = c.pixelByte x' y' ↔ y = y' ∧ x / 8 = x' / 8)) ∧
    (∀ full hl : Bool,
      let margin := if full then 0 else c.m
      let half := margin / 2
      let inMargin := margin ≠ 0 ∧ (y < half ∨ (c.h - margin) + half + (if c.marginBotOpen then 1 else 0) ≤ y)
      (c.blackFill (.picture full))[c.pixelByte x y]? =
        some (if inMargin then .imm 0xFF else .fbb (c.pixelByte x (y - half))) ∧
      (c.redFill (.picture full hl))[c.pixelByte x y]? =
        some (if inMargin then .imm (if hl then 0xFF else 0x00)
          else .fbbn (c.pixelByte x (y - (if c.redRowShifted then half else 0)))))

/-- 44_frame_transfer.md, section 5 (bounds), and 43_lut_upload.md: every plane index of every program lies in the plane. -/
def Obligations.ProgramsStayInsideThePlane : Prop :=
  ∀ (c : Cfg) (q : Half) (p : List Uop) (src : ByteSrc), prog c q = some p → .xfer src ∈ p → src.wf c = true

/-- 20_memory.md, section 4 (line-set happens-before transfer), and 40_bus_transport.md: in every program each transfer follows a
`SETL` of `DC` directly, and no program drives `CS` but inside a transfer. -/
def Obligations.EveryTransferFollowsItsDataCommandLine : Prop :=
  ∀ (c : Cfg) (q : Half) (p : List Uop), prog c q = some p →
    (∀ (k : Nat) (src : ByteSrc), p[k]? = some (.xfer src) →
      ∃ j level, k = j + 1 ∧ p[j]? = some (.setl .dc level)) ∧
    (∀ level, .setl .cs level ∉ p)

/-- 41_framing_handshake_reset.md, sections 2 and 3, and 70_reset_and_hazards.md, section 4: the waits, the delays and the `SETPS` of
every program, in order, and its one `END`, last. -/
def Obligations.ProgramsHoldTheStatedWaitsAndDelays : Prop :=
  ∀ c : Cfg,
    let holds : Instr → Nat → List Nat → List RestState → Prop := fun i waits delays states => ∃ b,
      program c i = some (b ++ [.endOp]) ∧ Uop.endOp ∉ b ∧ b.countP (fun u => decide (u = .waiti)) = waits ∧
      b.filterMap delayOf = delays ∧
      b.filterMap storedState = states
    holds .waitIdle 1 [] [] ∧ (∀ o, holds (.sendCommand o) 0 [] []) ∧ (∀ d, holds (.sendData d) 0 [] []) ∧
    holds .reset 0 [200, 200] [.uninit] ∧ holds .initPanel 3 [200, 200] [.uninit, .idle] ∧
    (∀ t, holds (.loadLut t) 0 [] []) ∧ holds .loadLutBw 0 [] [] ∧ holds .loadLutRed 0 [] [] ∧
    (∀ mode full hl, holds (.displayFrame mode full hl) 1 [] []) ∧ holds .sleep 0 [100] [.sleeping] ∧
    holds .clearToWhite 1 [] [] ∧
    (∀ alarm, holds (.showSession alarm) 2 [200, 200, 100] [.uninit, .sleeping])

/-- The whole trace of each of the twelve operations, with no fault, no raced byte and every wait answered idle at once: which
bytes, as command or data, in which order, with the line levels, the delays and the samples. 41_framing_handshake_reset.md section 4,
42_initialize.md (for every `NDUC1`), 43_lut_upload.md, 44_frame_transfer.md sections 1 to 4 (the margin arithmetic written out),
45_sleep_clear.md, 46_display_session.md. `OperationRunsToItsEnd` says that a run leaves the events of its program in the trace. -/
def Obligations.OperationTracesAreTheDocumentedOnes : Prop :=
  ∀ s : State,
    let c := s.cfg
    let emits : Instr → List Event → Prop := fun i es => ∃ p, program c i = some p ∧ p.flatMap s.uopEvents = es
    let C := commandEvents c
    let D := dataEvents c
    let idle : List Event := [.S c.busyIdleLevel]
    let low : Byte := BitVec.ofNat 8 ((c.h - 1) % 256)
    let high : Byte := BitVec.ofNat 8 ((c.h - 1) / 256)
    let bw := (c.w + 7) / 8
    let pulse : List Event := [.L .rst false, .T 200, .L .rst true, .T 200]
    let lut : Fin 8 → List Event := fun t => C (c.opcLut.get t) ++ (c.lut.get t).toList.flatMap D
    let margin : Bool → Nat := fun full => if full then 0 else c.m
    let half : Bool → Nat := fun full => margin full / 2
    let bottom : Bool → Nat := fun full => (c.h - margin full) + half full + (if c.marginBotOpen then 1 else 0)
    let rowMajor : (Nat → Nat → Byte) → List Event := fun f =>
      (List.range c.h).flatMap fun r => (List.range bw).flatMap fun k => D (f r k)
    let red : Bool → Bool → List Event := fun full hl => C c.opcWriteRamRed ++ rowMajor fun r k =>
      if margin full ≠ 0 ∧ (r < half full ∨ bottom full ≤ r) then (if hl then 0xFF else 0x00)
      else 255 - s.planeByte .black ((r - (if c.redRowShifted then half full else 0)) * bw + k)
    let black : Bool → List Event := fun full => C c.opcWriteRamBlack ++ rowMajor fun r k =>
      if margin full ≠ 0 ∧ (r < half full ∨ bottom full ≤ r) then 0xFF
      else s.planeByte .black ((r - half full) * bw + k)
    let activation : List Event := C c.opcUpdateCtrl2 ++ D c.duc2Flag ++ C c.opcActivate ++ idle
    let deepSleep : List Event := C c.opcDeepSleep ++ D 0x01 ++ [.T 100]
    emits .waitIdle idle ∧
    (∀ o : Byte, emits (.sendCommand o) (C o)) ∧
    (∀ b : Byte, emits (.sendData b) (D b)) ∧
    emits .reset pulse ∧
    emits .initPanel
      (pulse ++ idle ++ C c.opcSwreset ++ idle
        ++ (C c.opcDriverOutput ++ D low ++ D high ++ D c.docMode)
        ++ (C c.opcDataEntry ++ D c.demData)
        ++ (C c.opcRamXWindow ++ D 0x00 ++ D (BitVec.ofNat 8 (bw - 1)))
        ++ (C c.opcRamYWindow ++ D 0x00 ++ D 0x00 ++ D low ++ D high)
        ++ (C c.opcBorder ++ D c.borderData) ++ (C c.opcTempSensor ++ D c.tempData)
        ++ (C c.opcUpdateCtrl1 ++ c.duc1Data.flatMap D)
        ++ (C c.opcRamXCounter ++ D 0x00) ++ (C c.opcRamYCounter ++ D low ++ D high)
        ++ idle) ∧
    (∀ t : BitVec 3, emits (.loadLut t) (lut t.toFin)) ∧
    emits .loadLutBw (lut 0 ++ lut 1 ++ lut 2 ++ lut 3 ++ lut 4) ∧
    emits .loadLutRed (lut 5 ++ lut 6 ++ lut 7) ∧
    (∀ full hl : Bool,
      emits (.displayFrame .both full hl) (red full hl ++ black full ++ activation) ∧
      emits (.displayFrame .blackOnly full hl) (black full ++ activation) ∧
      emits (.displayFrame .redOnly full hl) (red full hl ++ activation)) ∧
    emits .sleep deepSleep ∧
    emits .clearToWhite
      (C c.opcWriteRamBlack ++ (List.replicate (bw * c.h) 0xFF).flatMap D
        ++ C c.opcWriteRamRed ++ (List.replicate (bw * c.h) 0x00).flatMap D ++ activation) ∧
    (∀ alarm : Bool, emits (.showSession alarm)
      (pulse ++ idle ++ red false alarm ++ black false ++ activation ++ deepSleep))

/-- 30_encoding.md, section 2 (operand bytes), and 42_initialize.md: `H - 1` as two bytes, the low one first, the window end
`ceil(W/8) - 1`, the window starts 0; and the operand bytes of `W = 128, H = 296`. The two bytes of the RAM-Y counter and the third
byte of driver-output control are the spec's own choice (92_eei_decisions.md D15, D14). -/
def Obligations.OperandBytesAreAssembledAsStated : Prop :=
  (∀ c : Cfg, c.wf = true →
    let low : Byte := BitVec.ofNat 8 ((c.h - 1) % 256)
    let high : Byte := BitVec.ofNat 8 ((c.h - 1) / 256 % 256)
    let xEnd : Byte := BitVec.ofNat 8 ((c.w + 7) / 8 - 1)
    low.toNat + 256 * high.toNat = c.h - 1 ∧ xEnd.toNat + 1 = (c.w + 7) / 8 ∧
    frameDriverOutput c = cmd c.opcDriverOutput ++ dat (.imm low) ++ dat (.imm high) ++ dat (.imm c.docMode) ∧
    frameRamXWindow c = cmd c.opcRamXWindow ++ dat (.imm 0x00) ++ dat (.imm xEnd) ∧
    frameRamYWindow c =
      cmd c.opcRamYWindow ++ dat (.imm 0x00) ++ dat (.imm 0x00) ++ dat (.imm low) ++ dat (.imm high) ∧
    frameRamYCounter c = cmd c.opcRamYCounter ++ dat (.imm low) ++ dat (.imm high)) ∧
  (∀ c : Cfg, c.w = 128 → c.h = 296 →
    lo8 (c.bw - 1) = 0x0F ∧ lo8 (c.h - 1) = 0x27 ∧ hi8 (c.h - 1) = 0x01)

/-! Runs. -/

/-- 10_state.md, section 2 (the transitions of `PS`), and 30_encoding.md, section 3: a permitted request, on a panel idle at every
sample and a bus that never faults, runs to its successful end in one step and one for each micro-op of its program, with the trace
of that program and the panel state of the transition table. Both premises are named in 70_reset_and_hazards.md, section 4. -/
def Obligations.OperationRunsToItsEnd : Prop :=
  ∀ (s : State) (i : Instr) (w : Half) (p : List Uop), s.cfg.wf = true → s.sched = [.host (.writeReq w)] →
    s.run = false → requestWord i = some w → program s.cfg i = some p → permitted i s.ps = true →
    s.NoFault → s.PanelIdle →
    ∃ t, Sys2Proof.core.run (1 + p.length) s = .next t ∧ t.endedWell ∧ t.ps = endState i s.ps ∧
      t.trace = s.trace ++ p.flatMap s.uopEvents ∧ t.rej = .none ∧ t.lastBusy = false ∧ t.opr = w ∧
      t.seq.toNat + 1 = p.length ∧ t.cfg = s.cfg ∧ (∀ pl a, t.planeByte pl a = s.planeByte pl a)

/-- 41_framing_handshake_reset.md, section 2, and 70_reset_and_hazards.md, section 4: a wait may take any finite number of busy
samples before the idle one. -/
def Obligations.WaitAdmitsAnyNumberOfBusySamples : Prop :=
  ∀ (s : State) (k : Nat) (later : List Level), s.cfg.wf = true → s.sched = [] → s.run = true →
    s.currentUop = some .waiti → (∀ n, s.cfg.waitTimeout = some n → 2 ^ 32 * s.pollWraps + s.polls.toNat + k < n) →
    s.panel.script = List.replicate k (!s.cfg.busyIdleLevel) ++ s.cfg.busyIdleLevel :: later →
    ∃ t, Sys2Proof.core.run (k + 1) s = .next t ∧ t.run = true ∧ t.seq = s.seq + 1 ∧ t.lastBusy = false ∧ t.polls = 0 ∧ t.pollWraps = 0 ∧
      t.panel.script = later ∧
      t.trace = s.trace ++ List.replicate k (.S (!s.cfg.busyIdleLevel)) ++ [.S s.cfg.busyIdleLevel]

/-- 70_reset_and_hazards.md, section 3 (hang): with no timeout and a stuck busy line the wait never ends, and `STATUS` reports
`Busy`. -/
def Obligations.StuckBusyLineHangsForEver : Prop :=
  ∀ (s : State) (k : Nat), s.cfg.wf = true → s.sched = [] → s.run = true → s.currentUop = some .waiti →
    s.cfg.waitTimeout = none → s.PanelStuck →
    ∃ t, Sys2Proof.core.run (k + 1) s = .next t ∧ t.run = true ∧ t.seq = s.seq ∧ t.opr = s.opr ∧ t.pstate = 2 ∧
      t.PanelStuck ∧ t.currentUop = some .waiti ∧
      t.trace = s.trace ++ List.replicate (k + 1) (.S (!s.cfg.busyIdleLevel))

/-- 41_framing_handshake_reset.md, section 2 (timeout), and 70_reset_and_hazards.md, section 4: with `WAIT_TIMEOUT = n`, for every
`n`, a wait that the panel answers busy aborts at its `n`-th sample; and whatever the panel answers, a wait is over within `n`
samples, passed or aborted. The samples are counted past the 32 bits of `POLLS` in the model's own `pollWraps` (log entry 10). -/
def Obligations.BoundedWaitTimesOut : Prop :=
  ∀ (s : State) (n : Nat), s.cfg.wf = true → s.sched = [] → s.run = true → s.currentUop = some .waiti →
    s.cfg.waitTimeout = some n → s.polls = 0 → s.pollWraps = 0 →
    (s.PanelStuck → ∃ t, Sys2Proof.core.run n s = .next t ∧ t.run = false ∧ t.err = .timeout ∧ t.ps = .fault ∧
      t.lastBusy = false ∧ t.seq = s.seq ∧ t.trace = s.trace ++ List.replicate n (.S (!s.cfg.busyIdleLevel))) ∧
    (∃ k t, k ≤ n ∧ Sys2Proof.core.run k s = .next t ∧ t.lastBusy = false ∧
      ((t.run = true ∧ t.seq = s.seq + 1 ∧ t.err = s.err ∧
          t.trace = s.trace ++ List.replicate (k - 1) (.S (!s.cfg.busyIdleLevel)) ++ [.S s.cfg.busyIdleLevel]) ∨
        (k = n ∧ t.run = false ∧ t.seq = s.seq ∧ t.err = .timeout ∧ t.ps = .fault ∧
          t.trace = s.trace ++ List.replicate n (.S (!s.cfg.busyIdleLevel)))))

/-! The whole machine. -/

/-- The invariant holds after reset. -/
def Obligations.InvariantHoldsAtReset : Prop := Inv State.reset

/-- Every step keeps the invariant. -/
def Obligations.EveryStepKeepsTheInvariant : Prop := ∀ s t : State, Inv s → step s = .next t → Inv t

/-- "`SEQ` is always a valid index" (30_encoding.md, section 3): from a state the invariant holds in, the engine's turn is never
stopped. -/
def Obligations.EngineIsNeverStopped : Prop :=
  ∀ s : State, Inv s → s.engineTurn → ∃ t, step s = .next t

/-- 20_memory.md R54: no instruction changes a byte of either plane. -/
def Obligations.NoInstructionWritesMemory : Prop :=
  ∀ (i : Instr) (s t : State), exec i s = .next t → ∀ pl a, t.planeByte pl a = s.planeByte pl a

/-- The frame of the wire frames and the micro-ops (30_encoding.md, section 3; 10_state.md, sections 1 to 4): they leave the
configuration with its LUT ROM, `OPR`, `REJ`, the host's turns and what it has read as they are; only `SETL` of `RST` changes the reset
line's latch, only `SETPS` and an abort change `PS`, only an abort and `END` change `RUN`, only an abort changes `ERR`, only `WAITI` changes `POLLS`. -/
def Obligations.EngineInstructionsKeepTheRest : Prop :=
  ∀ (i : Instr) (s t : State), isOperation i = false → (∀ x, i ≠ .reservedOp x) → exec i s = .next t →
    t.cfg = s.cfg ∧ t.opr = s.opr ∧ t.rej = s.rej ∧ t.sched = s.sched ∧ t.hostReads = s.hostReads ∧ t.raced = s.raced ∧
    ((∀ level, i ≠ .setl .rst level) → t.rstL = s.rstL) ∧
    ((∀ x, i ≠ .setps x) → t.ps = s.ps ∨ (t.ps = .fault ∧ t.run = false ∧ t.err ≠ .none)) ∧
    (i ≠ .endOp → t.run = s.run ∨ (t.run = false ∧ t.ps = .fault ∧ t.err ≠ .none)) ∧
    (t.err = s.err ∨ (t.run = false ∧ t.ps = .fault)) ∧
    (i ≠ .waiti → t.polls = s.polls ∧ t.pollWraps = s.pollWraps ∧ (t.lastBusy = s.lastBusy ∨ t.err ≠ .none))

/-- 10_state.md, section 2 (`PS` is written only by `SETPS` and by `abort`), and the block reset. -/
def Obligations.PanelStateIsWrittenOnlyBySetpsAndAbort : Prop :=
  ∀ s t : State, step s = .next t → t.ps ≠ s.ps →
    (s.engineTurn ∧ s.run = true ∧ ∃ x, s.currentUop = some (.setps x) ∧ t.ps = panelStateOf x) ∨
    (s.engineTurn ∧ s.run = true ∧ t.ps = .fault ∧ t.run = false ∧ t.err ≠ .none) ∨
    (t.ps = .uninit ∧ ∃ rest, s.sched = .host .blockReset :: rest)

/-- 60_exceptions.md, section 5 (clearing): a step changes `ERR` only by accepting a request, by an abort, or by a block
reset. -/
def Obligations.ErrIsWrittenOnlyByAcceptanceAbortAndReset : Prop :=
  ∀ s t : State, step s = .next t → t.err ≠ s.err →
    (t.err = .none ∧ s.run = false ∧ t.run = true ∧ t.rej = .none ∧
      ∃ q rest, s.sched = .host (.writeReq q) :: rest ∧ t.opr = q) ∨
    (s.engineTurn ∧ s.run = true ∧ t.run = false ∧ t.ps = .fault) ∨
    (t.err = .none ∧ ∃ rest, s.sched = .host .blockReset :: rest)

/-- 10_state.md, section 1: an engine step leaves `SEQ` or adds 1 to it; there is no other control transfer. -/
def Obligations.SeqOnlyAdvancesByOne : Prop :=
  ∀ s t : State, step s = .next t → s.engineTurn →
    (t.seq = s.seq + 1 ∧ s.run = true ∧ t.run = true) ∨
    (t.seq = s.seq ∧ (s.run = false ∨ t.run = false ∨ (s.currentUop = some .waiti ∧ t.lastBusy = true)))

/-- 00_scope.md, section 5, and 60_exceptions.md, section 1: the trace only grows, and only on the engine's turn. -/
def Obligations.OnlyTheEngineEmitsEvents : Prop :=
  ∀ s t : State, step s = .next t →
    (∃ es, t.trace = s.trace ++ es) ∧ (¬ (s.engineTurn ∧ s.run = true) → t.trace = s.trace)

/-- 44_frame_transfer.md R192: whatever `FB_RED` holds, a step and a run of any number of steps do the same to the trace and to every
field but the red plane and what the host has read; on the engine's turn a step leaves both as they are. -/
def Obligations.RedPlaneIsNeverRead : Prop :=
  ∀ (s : State) (red : Memory) (reads : List HostRead),
    (∀ t, step s = .next t →
      (∃ red' reads', step { s with fbRed := red, hostReads := reads } = .next { t with fbRed := red', hostReads := reads' }) ∧
      (s.engineTurn →
        step { s with fbRed := red, hostReads := reads } = .next { t with fbRed := red, hostReads := reads })) ∧
    (∀ k t, Sys2Proof.core.run k s = .next t →
      ∃ red' reads', Sys2Proof.core.run k { s with fbRed := red, hostReads := reads } =
        .next { t with fbRed := red', hostReads := reads' })

/-- 20_memory.md, sections 1 and 4: a byte the host writes reads back, every other byte of both planes reads as before, the plane
keeps its canonical form, and nothing else changes but the bytes noted as raced. A write of `FB_BLACK` while `DISPLAY_FRAME` or `SHOW`
is in progress notes the byte it overwrites, so that a later transfer may deliver it (decision D30); a write at rest, during another
operation, or of `FB_RED` notes nothing. How raced bytes are noted, and that a write of `FB_BLACK` completes also while `RUN = 1`,
where the spec gives the host no access, is the model's (DEDUCED, log entry 7), as is what a byte not written since reset reads as
(DESIGN CHOICE, log entry 8) and the stop past the end of the plane (DESIGN CHOICE, log entry 12). -/
def Obligations.HostWriteChangesOneByte : Prop :=
  ∀ (s : State) (pl : Plane) (a : Nat) (v : Byte) (rest : List Turn), Inv s → s.sched = .host (.writePlane pl a v) :: rest →
    let races := pl = .black ∧ s.run = true ∧ (s.opr.extractLsb' 12 4 = 0x8#4 ∨ s.opr.extractLsb' 12 4 = 0xB#4)
    (a < (s.cfg.w + 7) / 8 * s.cfg.h →
      ∃ t, step s = .next t ∧ t.planeByte pl a = v ∧
        (∀ pl' b, (pl' ≠ pl ∨ b ≠ a) → t.planeByte pl' b = s.planeByte pl' b) ∧ Memory.wf (t.plane pl) ∧
        (races → t.oldBytes a = s.planeByte .black a :: s.oldBytes a ∧ ∀ b, b ≠ a → t.oldBytes b = s.oldBytes b) ∧
        (¬ races → t.raced = s.raced) ∧
        t = { s with sched := rest, fbBlack := t.fbBlack, fbRed := t.fbRed, raced := t.raced } ∧
        t.status = s.status ∧ t.trace = s.trace ∧ t.opr = s.opr ∧ t.seq = s.seq) ∧
    ((s.cfg.w + 7) / 8 * s.cfg.h ≤ a → step s = .fault (.noPlaneByte a))

/-- 20_memory.md, section 1: a host read of a byte of a plane returns the byte stored there and changes nothing else. What it returns
of `FB_BLACK` while `RUN = 1`, where the spec gives the host no access and no value, is the model's choice (DESIGN CHOICE, log
entry 17), as are the record of reads (log entry 4) and the stop past the end of the plane (log entry 12). -/
def Obligations.HostReadReturnsTheByte : Prop :=
  ∀ (s : State) (pl : Plane) (a : Nat) (rest : List Turn), s.cfg.wf = true → s.sched = .host (.readPlane pl a) :: rest →
    (a < (s.cfg.w + 7) / 8 * s.cfg.h →
      step s = .next { s with sched := rest, hostReads := s.hostReads ++ [.plane (s.planeByte pl a)] }) ∧
    ((s.cfg.w + 7) / 8 * s.cfg.h ≤ a → step s = .fault (.noPlaneByte a))

/-- 10_state.md, sections 2 and 4: the fields of `STATUS`, with every code. -/
def Obligations.StatusReportsItsFields : Prop :=
  ∀ s : State,
    s.status.extractLsb' 0 1 = BitVec.ofBool s.run ∧
    s.status.extractLsb' 1 3 = (if s.run && s.lastBusy then 2 else
      match s.ps with | .uninit => 0 | .idle => 1 | .sleeping => 3 | .fault => 4) ∧
    s.status.extractLsb' 4 3 = (match s.err with | .none => 0 | .busError => 1 | .initError => 2 | .timeout => 3) ∧
    s.status.extractLsb' 7 2 =
      (match s.rej with | .none => 0 | .illegalRequest => 1 | .illegalState => 2 | .engineBusy => 3) ∧
    s.status.extractLsb' 9 7 = 0

/-- 10_state.md, section 4: a read of `STATUS` returns it and has no side effect, `REQ` reads as 0, a write of `STATUS` is
ignored. -/
def Obligations.RegisterReadsHaveNoSideEffect : Prop :=
  ∀ (s : State) (rest : List Turn), s.cfg.wf = true →
    (s.sched = .host .readStatus :: rest →
      step s = .next { s with sched := rest, hostReads := s.hostReads ++ [.register s.status] }) ∧
    (s.sched = .host .readReq :: rest →
      step s = .next { s with sched := rest, hostReads := s.hostReads ++ [.register 0] }) ∧
    (∀ v, s.sched = .host (.writeStatus v) :: rest → step s = .next { s with sched := rest })

/-- 70_reset_and_hazards.md, section 1: the state after reset, and a block reset during an operation, which abandons it with no
further event. The values are the spec's own choice (92_eei_decisions.md D26). -/
def Obligations.ResetLeavesTheStatedValues : Prop :=
  (State.reset.ps = .uninit ∧ State.reset.run = false ∧ State.reset.status = 0 ∧ State.reset.rstL = true ∧
    State.reset.dcL = false ∧ State.reset.csL = (!State.reset.cfg.csAssertLevel) ∧ State.reset.trace = []) ∧
  ∀ (s : State) (rest : List Turn), s.cfg.wf = true → s.sched = .host .blockReset :: rest →
    ∃ t, step s = .next t ∧ t.ps = .uninit ∧ t.run = false ∧ t.opr = 0 ∧ t.seq = 0 ∧ t.polls = 0 ∧ t.pollWraps = 0 ∧
      t.lastBusy = false ∧ t.err = .none ∧ t.rej = .none ∧ t.rstL = true ∧ t.dcL = false ∧ t.csL = (!s.cfg.csAssertLevel) ∧
      t.trace = s.trace ∧ t.cfg = s.cfg
end

