-- ==== Sys2Proof/Laws/Decode.lean ====
section
/-! SUPPORT. The fields of a request word, and how a word is put together again from them. -/

namespace Sys2Proof

/-- The value of a request word. -/
theorem reqWord_toNat (op : BitVec 4) (a : Byte) : (reqWord op a).toNat = op.toNat * 4096 + a.toNat := by
  have : (reqWord op a).toNat = (op ++ (0#4 ++ a)).toNat := rfl
  rw [this, BitVec.toNat_append, BitVec.toNat_append, ← Nat.shiftLeft_add_eq_or_of_lt (by simp; omega)]
  simp [Nat.shiftLeft_eq]

/-- The `OP` field of a request word. -/
theorem reqWord_op (op : BitVec 4) (a : Byte) : (reqWord op a).extractLsb' 12 4 = op := by
  apply BitVec.eq_of_toNat_eq
  have := op.isLt; have := a.isLt
  rw [BitVec.extractLsb'_toNat, reqWord_toNat, Nat.shiftRight_eq_div_pow]; omega

/-- The `RSV` field of a request word. -/
theorem reqWord_rsv (op : BitVec 4) (a : Byte) : (reqWord op a).extractLsb' 8 4 = 0#4 := by
  apply BitVec.eq_of_toNat_eq
  have := op.isLt; have := a.isLt
  rw [BitVec.extractLsb'_toNat, reqWord_toNat, Nat.shiftRight_eq_div_pow]; simp; omega

/-- The `ARG` field of a request word. -/
theorem reqWord_arg (op : BitVec 4) (a : Byte) : (reqWord op a).extractLsb' 0 8 = a := by
  apply BitVec.eq_of_toNat_eq
  have := op.isLt; have := a.isLt
  rw [BitVec.extractLsb'_toNat, reqWord_toNat, Nat.shiftRight_eq_div_pow]; omega

/-- A word with `RSV = 0` is made of its `OP` and `ARG`. -/
theorem eq_reqWord {q : Half} (h : q.extractLsb' 8 4 = 0#4) : q = reqWord (q.extractLsb' 12 4) (q.extractLsb' 0 8) := by
  apply BitVec.eq_of_toNat_eq
  have h := congrArg BitVec.toNat h
  rw [reqWord_toNat]
  simp only [BitVec.extractLsb'_toNat, Nat.shiftRight_eq_div_pow] at h ⊢
  have := q.isLt
  simp at h
  omega

/-- The value of a word of the reserved range. -/
theorem reserved_toNat (x : BitVec 14) : (3#2 ++ x : Half).toNat = 3 * 16384 + x.toNat := by
  have : (3#2 ++ x : Half).toNat = (3#2 ++ x).toNat := rfl
  rw [this, BitVec.toNat_append, ← Nat.shiftLeft_add_eq_or_of_lt x.isLt]
  simp [Nat.shiftLeft_eq]

/-- The reserved range is the words from `0xC000` on. -/
theorem reserved_iff (q : Half) : 0xC#4 ≤ q.extractLsb' 12 4 ↔ 49152 ≤ q.toNat := by
  rw [BitVec.le_def, BitVec.extractLsb'_toNat, Nat.shiftRight_eq_div_pow]
  have := q.isLt
  simp; omega

/-- A word of the reserved range is made of its 14 low bits. -/
theorem eq_reserved {q : Half} (h : 0xC#4 ≤ q.extractLsb' 12 4) : q = (3#2 ++ q.extractLsb' 0 14 : Half) := by
  rw [reserved_iff] at h
  apply BitVec.eq_of_toNat_eq
  rw [reserved_toNat]
  have := q.isLt
  simp; omega

/-- The 14 low bits of a word of the reserved range. -/
theorem reserved_low (x : BitVec 14) : (3#2 ++ x : Half).extractLsb' 0 14 = x := by
  apply BitVec.eq_of_toNat_eq
  have := x.isLt
  rw [BitVec.extractLsb'_toNat, reserved_toNat, Nat.shiftRight_eq_div_pow]; omega

end Sys2Proof
end

