-- ==== Sys2Proof/Laws/Memory.lean ====
section
/-! SUPPORT. The laws of a plane as a memory: a read after a write, the canonical form kept by every memory operation. -/

namespace Sys2Proof.Machine
open Sys2Proof

/-- A read after a write. -/
theorem Memory.read_write (m : Memory) (a b : Nat) (v : Byte) (h : m.wf) :
    (Memory.write m a v).read b = if b = a then some v else m.read b := by
  induction m with
  | nil => simp [Memory.write, Memory.read]
  | cons x m ih =>
    obtain ⟨c, w⟩ := x
    have hm : Memory.wf m := (List.pairwise_cons.mp h).2
    have ih := ih hm
    simp only [Memory.write]
    split
    · simp [Memory.read]
    · split
      · subst_vars; simp [Memory.read]; split <;> rfl
      · simp only [Memory.read, ih]
        by_cases h1 : b = c
        · subst h1; simp; omega
        · simp [h1]

/-- What a write lists: the byte written, and entries that were listed before. -/
theorem Memory.mem_write {m : Memory} {a : Nat} {v : Byte} {x : Host.Cell} (h : x ∈ Memory.write m a v) :
    x = (a, v) ∨ x ∈ m := by
  induction m with
  | nil => simpa [Memory.write] using h
  | cons y m ih =>
    obtain ⟨c, w⟩ := y
    simp only [Memory.write] at h
    split at h
    · simpa using h
    · split at h
      · simp only [List.mem_cons] at h ⊢; tauto
      · simp only [List.mem_cons] at h ⊢
        rcases h with h | h
        · tauto
        · rcases ih h with h | h <;> tauto

/-- A write keeps the canonical form. -/
theorem Memory.write_wf {m : Memory} (a : Nat) (v : Byte) (h : m.wf) : (Memory.write m a v).wf := by
  induction m with
  | nil => simp [Memory.write]
  | cons y m ih =>
    obtain ⟨c, w⟩ := y
    obtain ⟨h1, h2⟩ := List.pairwise_cons.mp h
    simp only [Memory.write]
    split
    · rename_i hlt
      refine List.pairwise_cons.mpr ⟨?_, h⟩
      intro z hz
      rcases List.mem_cons.mp hz with rfl | hz
      · exact hlt
      · exact lt_trans hlt (h1 z hz)
    · split
      · subst_vars; exact List.pairwise_cons.mpr ⟨h1, h2⟩
      · refine List.pairwise_cons.mpr ⟨?_, ih h2⟩
        intro z hz
        rcases Memory.mem_write hz with rfl | hz
        · show c < a; omega
        · exact h1 z hz

/-- Storing a byte in a plane keeps both planes' canonical form. -/
theorem State.storePlane_wf {s : State} (hb : s.fbBlack.wf) (hr : s.fbRed.wf) (p : Plane) (a : Nat) (v : Byte) :
    (s.storePlane p a v).fbBlack.wf ∧ (s.storePlane p a v).fbRed.wf := by
  cases p with
  | black => exact ⟨Memory.write_wf a v hb, hr⟩
  | red => exact ⟨hb, Memory.write_wf a v hr⟩

/-- The planes after reset are in canonical form. -/
theorem State.reset_wf : State.reset.fbBlack.wf ∧ State.reset.fbRed.wf := ⟨List.Pairwise.nil, List.Pairwise.nil⟩

end Sys2Proof.Machine
end

