-- ==== Sys2Proof/Laws/State.lean ====
section
/-! SUPPORT. What every named operation does to every field of State, one lemma a field. -/

namespace Sys2Proof.Machine

@[simp] theorem State.emit_cfg (s : State) (e : Event) : (s.emit e).cfg = s.cfg := rfl
@[simp] theorem State.emit_opr (s : State) (e : Event) : (s.emit e).opr = s.opr := rfl
@[simp] theorem State.emit_seq (s : State) (e : Event) : (s.emit e).seq = s.seq := rfl
@[simp] theorem State.emit_polls (s : State) (e : Event) : (s.emit e).polls = s.polls := rfl
@[simp] theorem State.emit_pollWraps (s : State) (e : Event) : (s.emit e).pollWraps = s.pollWraps := rfl
@[simp] theorem State.emit_run (s : State) (e : Event) : (s.emit e).run = s.run := rfl
@[simp] theorem State.emit_ps (s : State) (e : Event) : (s.emit e).ps = s.ps := rfl
@[simp] theorem State.emit_lastBusy (s : State) (e : Event) : (s.emit e).lastBusy = s.lastBusy := rfl
@[simp] theorem State.emit_err (s : State) (e : Event) : (s.emit e).err = s.err := rfl
@[simp] theorem State.emit_rej (s : State) (e : Event) : (s.emit e).rej = s.rej := rfl
@[simp] theorem State.emit_rstL (s : State) (e : Event) : (s.emit e).rstL = s.rstL := rfl
@[simp] theorem State.emit_dcL (s : State) (e : Event) : (s.emit e).dcL = s.dcL := rfl
@[simp] theorem State.emit_csL (s : State) (e : Event) : (s.emit e).csL = s.csL := rfl
@[simp] theorem State.emit_fbBlack (s : State) (e : Event) : (s.emit e).fbBlack = s.fbBlack := rfl
@[simp] theorem State.emit_fbRed (s : State) (e : Event) : (s.emit e).fbRed = s.fbRed := rfl
@[simp] theorem State.emit_trace (s : State) (e : Event) : (s.emit e).trace = s.trace ++ [e] := rfl
@[simp] theorem State.emit_sched (s : State) (e : Event) : (s.emit e).sched = s.sched := rfl
@[simp] theorem State.emit_hostReads (s : State) (e : Event) : (s.emit e).hostReads = s.hostReads := rfl
@[simp] theorem State.emit_panel (s : State) (e : Event) : (s.emit e).panel = s.panel := rfl
@[simp] theorem State.emit_bus (s : State) (e : Event) : (s.emit e).bus = s.bus := rfl
@[simp] theorem State.emit_race (s : State) (e : Event) : (s.emit e).race = s.race := rfl
@[simp] theorem State.emit_raced (s : State) (e : Event) : (s.emit e).raced = s.raced := rfl
@[simp] theorem State.emit_draws (s : State) (e : Event) : (s.emit e).draws = s.draws := rfl
@[simp] theorem State.emit_resets (s : State) (e : Event) : (s.emit e).resets = s.resets := rfl

@[simp] theorem State.drive_cfg (s : State) (line : Line) (level : Level) : (s.drive line level).cfg = s.cfg := by cases line <;> rfl
@[simp] theorem State.drive_opr (s : State) (line : Line) (level : Level) : (s.drive line level).opr = s.opr := by cases line <;> rfl
@[simp] theorem State.drive_seq (s : State) (line : Line) (level : Level) : (s.drive line level).seq = s.seq := by cases line <;> rfl
@[simp] theorem State.drive_polls (s : State) (line : Line) (level : Level) : (s.drive line level).polls = s.polls := by cases line <;> rfl
@[simp] theorem State.drive_pollWraps (s : State) (line : Line) (level : Level) : (s.drive line level).pollWraps = s.pollWraps := by cases line <;> rfl
@[simp] theorem State.drive_run (s : State) (line : Line) (level : Level) : (s.drive line level).run = s.run := by cases line <;> rfl
@[simp] theorem State.drive_ps (s : State) (line : Line) (level : Level) : (s.drive line level).ps = s.ps := by cases line <;> rfl
@[simp] theorem State.drive_lastBusy (s : State) (line : Line) (level : Level) : (s.drive line level).lastBusy = s.lastBusy := by cases line <;> rfl
@[simp] theorem State.drive_err (s : State) (line : Line) (level : Level) : (s.drive line level).err = s.err := by cases line <;> rfl
@[simp] theorem State.drive_rej (s : State) (line : Line) (level : Level) : (s.drive line level).rej = s.rej := by cases line <;> rfl
@[simp] theorem State.drive_rstL (s : State) (line : Line) (level : Level) : (s.drive line level).rstL = if line = .rst then level else s.rstL := by cases line <;> rfl
@[simp] theorem State.drive_dcL (s : State) (line : Line) (level : Level) : (s.drive line level).dcL = if line = .dc then level else s.dcL := by cases line <;> rfl
@[simp] theorem State.drive_csL (s : State) (line : Line) (level : Level) : (s.drive line level).csL = if line = .cs then level else s.csL := by cases line <;> rfl
@[simp] theorem State.drive_fbBlack (s : State) (line : Line) (level : Level) : (s.drive line level).fbBlack = s.fbBlack := by cases line <;> rfl
@[simp] theorem State.drive_fbRed (s : State) (line : Line) (level : Level) : (s.drive line level).fbRed = s.fbRed := by cases line <;> rfl
@[simp] theorem State.drive_trace (s : State) (line : Line) (level : Level) : (s.drive line level).trace = s.trace ++ [.L line level] := by cases line <;> rfl
@[simp] theorem State.drive_sched (s : State) (line : Line) (level : Level) : (s.drive line level).sched = s.sched := by cases line <;> rfl
@[simp] theorem State.drive_hostReads (s : State) (line : Line) (level : Level) : (s.drive line level).hostReads = s.hostReads := by cases line <;> rfl
@[simp] theorem State.drive_panel (s : State) (line : Line) (level : Level) : (s.drive line level).panel = s.panel := by cases line <;> rfl
@[simp] theorem State.drive_bus (s : State) (line : Line) (level : Level) : (s.drive line level).bus = s.bus := by cases line <;> rfl
@[simp] theorem State.drive_race (s : State) (line : Line) (level : Level) : (s.drive line level).race = s.race := by cases line <;> rfl
@[simp] theorem State.drive_raced (s : State) (line : Line) (level : Level) : (s.drive line level).raced = s.raced := by cases line <;> rfl
@[simp] theorem State.drive_draws (s : State) (line : Line) (level : Level) : (s.drive line level).draws = s.draws := by cases line <;> rfl
@[simp] theorem State.drive_resets (s : State) (line : Line) (level : Level) : (s.drive line level).resets = s.resets := by cases line <;> rfl

@[simp] theorem State.advance_cfg (s : State) : s.advance.cfg = s.cfg := rfl
@[simp] theorem State.advance_opr (s : State) : s.advance.opr = s.opr := rfl
@[simp] theorem State.advance_seq (s : State) : s.advance.seq = s.seq + 1 := rfl
@[simp] theorem State.advance_polls (s : State) : s.advance.polls = s.polls := rfl
@[simp] theorem State.advance_pollWraps (s : State) : s.advance.pollWraps = s.pollWraps := rfl
@[simp] theorem State.advance_run (s : State) : s.advance.run = s.run := rfl
@[simp] theorem State.advance_ps (s : State) : s.advance.ps = s.ps := rfl
@[simp] theorem State.advance_lastBusy (s : State) : s.advance.lastBusy = s.lastBusy := rfl
@[simp] theorem State.advance_err (s : State) : s.advance.err = s.err := rfl
@[simp] theorem State.advance_rej (s : State) : s.advance.rej = s.rej := rfl
@[simp] theorem State.advance_rstL (s : State) : s.advance.rstL = s.rstL := rfl
@[simp] theorem State.advance_dcL (s : State) : s.advance.dcL = s.dcL := rfl
@[simp] theorem State.advance_csL (s : State) : s.advance.csL = s.csL := rfl
@[simp] theorem State.advance_fbBlack (s : State) : s.advance.fbBlack = s.fbBlack := rfl
@[simp] theorem State.advance_fbRed (s : State) : s.advance.fbRed = s.fbRed := rfl
@[simp] theorem State.advance_trace (s : State) : s.advance.trace = s.trace := rfl
@[simp] theorem State.advance_sched (s : State) : s.advance.sched = s.sched := rfl
@[simp] theorem State.advance_hostReads (s : State) : s.advance.hostReads = s.hostReads := rfl
@[simp] theorem State.advance_panel (s : State) : s.advance.panel = s.panel := rfl
@[simp] theorem State.advance_bus (s : State) : s.advance.bus = s.bus := rfl
@[simp] theorem State.advance_race (s : State) : s.advance.race = s.race := rfl
@[simp] theorem State.advance_raced (s : State) : s.advance.raced = s.raced := rfl
@[simp] theorem State.advance_draws (s : State) : s.advance.draws = s.draws := rfl
@[simp] theorem State.advance_resets (s : State) : s.advance.resets = s.resets := rfl

@[simp] theorem State.abort_cfg (s : State) (code : ErrCode) : (s.abort code).cfg = s.cfg := rfl
@[simp] theorem State.abort_opr (s : State) (code : ErrCode) : (s.abort code).opr = s.opr := rfl
@[simp] theorem State.abort_seq (s : State) (code : ErrCode) : (s.abort code).seq = s.seq := rfl
@[simp] theorem State.abort_polls (s : State) (code : ErrCode) : (s.abort code).polls = s.polls := rfl
@[simp] theorem State.abort_pollWraps (s : State) (code : ErrCode) : (s.abort code).pollWraps = s.pollWraps := rfl
@[simp] theorem State.abort_run (s : State) (code : ErrCode) : (s.abort code).run = false := rfl
@[simp] theorem State.abort_ps (s : State) (code : ErrCode) : (s.abort code).ps = .fault := rfl
@[simp] theorem State.abort_lastBusy (s : State) (code : ErrCode) : (s.abort code).lastBusy = false := rfl
@[simp] theorem State.abort_err (s : State) (code : ErrCode) : (s.abort code).err = code := rfl
@[simp] theorem State.abort_rej (s : State) (code : ErrCode) : (s.abort code).rej = s.rej := rfl
@[simp] theorem State.abort_rstL (s : State) (code : ErrCode) : (s.abort code).rstL = s.rstL := rfl
@[simp] theorem State.abort_dcL (s : State) (code : ErrCode) : (s.abort code).dcL = s.dcL := rfl
@[simp] theorem State.abort_csL (s : State) (code : ErrCode) : (s.abort code).csL = s.csL := rfl
@[simp] theorem State.abort_fbBlack (s : State) (code : ErrCode) : (s.abort code).fbBlack = s.fbBlack := rfl
@[simp] theorem State.abort_fbRed (s : State) (code : ErrCode) : (s.abort code).fbRed = s.fbRed := rfl
@[simp] theorem State.abort_trace (s : State) (code : ErrCode) : (s.abort code).trace = s.trace := rfl
@[simp] theorem State.abort_sched (s : State) (code : ErrCode) : (s.abort code).sched = s.sched := rfl
@[simp] theorem State.abort_hostReads (s : State) (code : ErrCode) : (s.abort code).hostReads = s.hostReads := rfl
@[simp] theorem State.abort_panel (s : State) (code : ErrCode) : (s.abort code).panel = s.panel := rfl
@[simp] theorem State.abort_bus (s : State) (code : ErrCode) : (s.abort code).bus = s.bus := rfl
@[simp] theorem State.abort_race (s : State) (code : ErrCode) : (s.abort code).race = s.race := rfl
@[simp] theorem State.abort_raced (s : State) (code : ErrCode) : (s.abort code).raced = s.raced := rfl
@[simp] theorem State.abort_draws (s : State) (code : ErrCode) : (s.abort code).draws = s.draws := rfl
@[simp] theorem State.abort_resets (s : State) (code : ErrCode) : (s.abort code).resets = s.resets := rfl

@[simp] theorem State.refuse_cfg (s : State) (verdict : RejCode) : (s.refuse verdict).cfg = s.cfg := rfl
@[simp] theorem State.refuse_opr (s : State) (verdict : RejCode) : (s.refuse verdict).opr = s.opr := rfl
@[simp] theorem State.refuse_seq (s : State) (verdict : RejCode) : (s.refuse verdict).seq = s.seq := rfl
@[simp] theorem State.refuse_polls (s : State) (verdict : RejCode) : (s.refuse verdict).polls = s.polls := rfl
@[simp] theorem State.refuse_pollWraps (s : State) (verdict : RejCode) : (s.refuse verdict).pollWraps = s.pollWraps := rfl
@[simp] theorem State.refuse_run (s : State) (verdict : RejCode) : (s.refuse verdict).run = s.run := rfl
@[simp] theorem State.refuse_ps (s : State) (verdict : RejCode) : (s.refuse verdict).ps = s.ps := rfl
@[simp] theorem State.refuse_lastBusy (s : State) (verdict : RejCode) : (s.refuse verdict).lastBusy = s.lastBusy := rfl
@[simp] theorem State.refuse_err (s : State) (verdict : RejCode) : (s.refuse verdict).err = s.err := rfl
@[simp] theorem State.refuse_rej (s : State) (verdict : RejCode) : (s.refuse verdict).rej = verdict := rfl
@[simp] theorem State.refuse_rstL (s : State) (verdict : RejCode) : (s.refuse verdict).rstL = s.rstL := rfl
@[simp] theorem State.refuse_dcL (s : State) (verdict : RejCode) : (s.refuse verdict).dcL = s.dcL := rfl
@[simp] theorem State.refuse_csL (s : State) (verdict : RejCode) : (s.refuse verdict).csL = s.csL := rfl
@[simp] theorem State.refuse_fbBlack (s : State) (verdict : RejCode) : (s.refuse verdict).fbBlack = s.fbBlack := rfl
@[simp] theorem State.refuse_fbRed (s : State) (verdict : RejCode) : (s.refuse verdict).fbRed = s.fbRed := rfl
@[simp] theorem State.refuse_trace (s : State) (verdict : RejCode) : (s.refuse verdict).trace = s.trace := rfl
@[simp] theorem State.refuse_sched (s : State) (verdict : RejCode) : (s.refuse verdict).sched = s.sched := rfl
@[simp] theorem State.refuse_hostReads (s : State) (verdict : RejCode) : (s.refuse verdict).hostReads = s.hostReads := rfl
@[simp] theorem State.refuse_panel (s : State) (verdict : RejCode) : (s.refuse verdict).panel = s.panel := rfl
@[simp] theorem State.refuse_bus (s : State) (verdict : RejCode) : (s.refuse verdict).bus = s.bus := rfl
@[simp] theorem State.refuse_race (s : State) (verdict : RejCode) : (s.refuse verdict).race = s.race := rfl
@[simp] theorem State.refuse_raced (s : State) (verdict : RejCode) : (s.refuse verdict).raced = s.raced := rfl
@[simp] theorem State.refuse_draws (s : State) (verdict : RejCode) : (s.refuse verdict).draws = s.draws := rfl
@[simp] theorem State.refuse_resets (s : State) (verdict : RejCode) : (s.refuse verdict).resets = s.resets := rfl

@[simp] theorem State.accept_cfg (s : State) (q : Half) : (s.accept q).cfg = s.cfg := rfl
@[simp] theorem State.accept_opr (s : State) (q : Half) : (s.accept q).opr = q := rfl
@[simp] theorem State.accept_seq (s : State) (q : Half) : (s.accept q).seq = 0 := rfl
@[simp] theorem State.accept_polls (s : State) (q : Half) : (s.accept q).polls = 0 := rfl
@[simp] theorem State.accept_pollWraps (s : State) (q : Half) : (s.accept q).pollWraps = 0 := rfl
@[simp] theorem State.accept_run (s : State) (q : Half) : (s.accept q).run = true := rfl
@[simp] theorem State.accept_ps (s : State) (q : Half) : (s.accept q).ps = s.ps := rfl
@[simp] theorem State.accept_lastBusy (s : State) (q : Half) : (s.accept q).lastBusy = false := rfl
@[simp] theorem State.accept_err (s : State) (q : Half) : (s.accept q).err = .none := rfl
@[simp] theorem State.accept_rej (s : State) (q : Half) : (s.accept q).rej = .none := rfl
@[simp] theorem State.accept_rstL (s : State) (q : Half) : (s.accept q).rstL = s.rstL := rfl
@[simp] theorem State.accept_dcL (s : State) (q : Half) : (s.accept q).dcL = s.dcL := rfl
@[simp] theorem State.accept_csL (s : State) (q : Half) : (s.accept q).csL = s.csL := rfl
@[simp] theorem State.accept_fbBlack (s : State) (q : Half) : (s.accept q).fbBlack = s.fbBlack := rfl
@[simp] theorem State.accept_fbRed (s : State) (q : Half) : (s.accept q).fbRed = s.fbRed := rfl
@[simp] theorem State.accept_trace (s : State) (q : Half) : (s.accept q).trace = s.trace := rfl
@[simp] theorem State.accept_sched (s : State) (q : Half) : (s.accept q).sched = s.sched := rfl
@[simp] theorem State.accept_hostReads (s : State) (q : Half) : (s.accept q).hostReads = s.hostReads := rfl
@[simp] theorem State.accept_panel (s : State) (q : Half) : (s.accept q).panel = s.panel := rfl
@[simp] theorem State.accept_bus (s : State) (q : Half) : (s.accept q).bus = s.bus := rfl
@[simp] theorem State.accept_race (s : State) (q : Half) : (s.accept q).race = s.race := rfl
@[simp] theorem State.accept_raced (s : State) (q : Half) : (s.accept q).raced = [] := rfl
@[simp] theorem State.accept_draws (s : State) (q : Half) : (s.accept q).draws = s.draws := rfl
@[simp] theorem State.accept_resets (s : State) (q : Half) : (s.accept q).resets = s.resets := rfl

@[simp] theorem State.sampled_cfg (s : State) : s.sampled.cfg = s.cfg := rfl
@[simp] theorem State.sampled_opr (s : State) : s.sampled.opr = s.opr := rfl
@[simp] theorem State.sampled_seq (s : State) : s.sampled.seq = s.seq := rfl
@[simp] theorem State.sampled_polls (s : State) : s.sampled.polls = s.polls := rfl
@[simp] theorem State.sampled_pollWraps (s : State) : s.sampled.pollWraps = s.pollWraps := rfl
@[simp] theorem State.sampled_run (s : State) : s.sampled.run = s.run := rfl
@[simp] theorem State.sampled_ps (s : State) : s.sampled.ps = s.ps := rfl
@[simp] theorem State.sampled_lastBusy (s : State) : s.sampled.lastBusy = s.lastBusy := rfl
@[simp] theorem State.sampled_err (s : State) : s.sampled.err = s.err := rfl
@[simp] theorem State.sampled_rej (s : State) : s.sampled.rej = s.rej := rfl
@[simp] theorem State.sampled_rstL (s : State) : s.sampled.rstL = s.rstL := rfl
@[simp] theorem State.sampled_dcL (s : State) : s.sampled.dcL = s.dcL := rfl
@[simp] theorem State.sampled_csL (s : State) : s.sampled.csL = s.csL := rfl
@[simp] theorem State.sampled_fbBlack (s : State) : s.sampled.fbBlack = s.fbBlack := rfl
@[simp] theorem State.sampled_fbRed (s : State) : s.sampled.fbRed = s.fbRed := rfl
@[simp] theorem State.sampled_trace (s : State) : s.sampled.trace = s.trace ++ [.S s.busyLevel] := rfl
@[simp] theorem State.sampled_sched (s : State) : s.sampled.sched = s.sched := rfl
@[simp] theorem State.sampled_hostReads (s : State) : s.sampled.hostReads = s.hostReads := rfl
@[simp] theorem State.sampled_panel (s : State) : s.sampled.panel = s.panel.rest := rfl
@[simp] theorem State.sampled_bus (s : State) : s.sampled.bus = s.bus := rfl
@[simp] theorem State.sampled_race (s : State) : s.sampled.race = s.race := rfl
@[simp] theorem State.sampled_raced (s : State) : s.sampled.raced = s.raced := rfl
@[simp] theorem State.sampled_draws (s : State) : s.sampled.draws = s.draws + 1 := rfl
@[simp] theorem State.sampled_resets (s : State) : s.sampled.resets = s.resets := rfl

@[simp] theorem State.askedBus_cfg (s : State) : s.askedBus.cfg = s.cfg := rfl
@[simp] theorem State.askedBus_opr (s : State) : s.askedBus.opr = s.opr := rfl
@[simp] theorem State.askedBus_seq (s : State) : s.askedBus.seq = s.seq := rfl
@[simp] theorem State.askedBus_polls (s : State) : s.askedBus.polls = s.polls := rfl
@[simp] theorem State.askedBus_pollWraps (s : State) : s.askedBus.pollWraps = s.pollWraps := rfl
@[simp] theorem State.askedBus_run (s : State) : s.askedBus.run = s.run := rfl
@[simp] theorem State.askedBus_ps (s : State) : s.askedBus.ps = s.ps := rfl
@[simp] theorem State.askedBus_lastBusy (s : State) : s.askedBus.lastBusy = s.lastBusy := rfl
@[simp] theorem State.askedBus_err (s : State) : s.askedBus.err = s.err := rfl
@[simp] theorem State.askedBus_rej (s : State) : s.askedBus.rej = s.rej := rfl
@[simp] theorem State.askedBus_rstL (s : State) : s.askedBus.rstL = s.rstL := rfl
@[simp] theorem State.askedBus_dcL (s : State) : s.askedBus.dcL = s.dcL := rfl
@[simp] theorem State.askedBus_csL (s : State) : s.askedBus.csL = s.csL := rfl
@[simp] theorem State.askedBus_fbBlack (s : State) : s.askedBus.fbBlack = s.fbBlack := rfl
@[simp] theorem State.askedBus_fbRed (s : State) : s.askedBus.fbRed = s.fbRed := rfl
@[simp] theorem State.askedBus_trace (s : State) : s.askedBus.trace = s.trace := rfl
@[simp] theorem State.askedBus_sched (s : State) : s.askedBus.sched = s.sched := rfl
@[simp] theorem State.askedBus_hostReads (s : State) : s.askedBus.hostReads = s.hostReads := rfl
@[simp] theorem State.askedBus_panel (s : State) : s.askedBus.panel = s.panel := rfl
@[simp] theorem State.askedBus_bus (s : State) : s.askedBus.bus = s.bus.rest := rfl
@[simp] theorem State.askedBus_race (s : State) : s.askedBus.race = s.race := rfl
@[simp] theorem State.askedBus_raced (s : State) : s.askedBus.raced = s.raced := rfl
@[simp] theorem State.askedBus_draws (s : State) : s.askedBus.draws = s.draws + 1 := rfl
@[simp] theorem State.askedBus_resets (s : State) : s.askedBus.resets = s.resets := rfl

@[simp] theorem State.askedRace_cfg (s : State) : s.askedRace.cfg = s.cfg := rfl
@[simp] theorem State.askedRace_opr (s : State) : s.askedRace.opr = s.opr := rfl
@[simp] theorem State.askedRace_seq (s : State) : s.askedRace.seq = s.seq := rfl
@[simp] theorem State.askedRace_polls (s : State) : s.askedRace.polls = s.polls := rfl
@[simp] theorem State.askedRace_pollWraps (s : State) : s.askedRace.pollWraps = s.pollWraps := rfl
@[simp] theorem State.askedRace_run (s : State) : s.askedRace.run = s.run := rfl
@[simp] theorem State.askedRace_ps (s : State) : s.askedRace.ps = s.ps := rfl
@[simp] theorem State.askedRace_lastBusy (s : State) : s.askedRace.lastBusy = s.lastBusy := rfl
@[simp] theorem State.askedRace_err (s : State) : s.askedRace.err = s.err := rfl
@[simp] theorem State.askedRace_rej (s : State) : s.askedRace.rej = s.rej := rfl
@[simp] theorem State.askedRace_rstL (s : State) : s.askedRace.rstL = s.rstL := rfl
@[simp] theorem State.askedRace_dcL (s : State) : s.askedRace.dcL = s.dcL := rfl
@[simp] theorem State.askedRace_csL (s : State) : s.askedRace.csL = s.csL := rfl
@[simp] theorem State.askedRace_fbBlack (s : State) : s.askedRace.fbBlack = s.fbBlack := rfl
@[simp] theorem State.askedRace_fbRed (s : State) : s.askedRace.fbRed = s.fbRed := rfl
@[simp] theorem State.askedRace_trace (s : State) : s.askedRace.trace = s.trace := rfl
@[simp] theorem State.askedRace_sched (s : State) : s.askedRace.sched = s.sched := rfl
@[simp] theorem State.askedRace_hostReads (s : State) : s.askedRace.hostReads = s.hostReads := rfl
@[simp] theorem State.askedRace_panel (s : State) : s.askedRace.panel = s.panel := rfl
@[simp] theorem State.askedRace_bus (s : State) : s.askedRace.bus = s.bus := rfl
@[simp] theorem State.askedRace_race (s : State) : s.askedRace.race = s.race.rest := rfl
@[simp] theorem State.askedRace_raced (s : State) : s.askedRace.raced = s.raced := rfl
@[simp] theorem State.askedRace_draws (s : State) : s.askedRace.draws = s.draws + 1 := rfl
@[simp] theorem State.askedRace_resets (s : State) : s.askedRace.resets = s.resets := rfl

@[simp] theorem State.bracket_cfg (s : State) (e : Event) : (s.bracket e).cfg = s.cfg := by simp [State.bracket]
@[simp] theorem State.bracket_opr (s : State) (e : Event) : (s.bracket e).opr = s.opr := by simp [State.bracket]
@[simp] theorem State.bracket_seq (s : State) (e : Event) : (s.bracket e).seq = s.seq := by simp [State.bracket]
@[simp] theorem State.bracket_polls (s : State) (e : Event) : (s.bracket e).polls = s.polls := by simp [State.bracket]
@[simp] theorem State.bracket_pollWraps (s : State) (e : Event) : (s.bracket e).pollWraps = s.pollWraps := by simp [State.bracket]
@[simp] theorem State.bracket_run (s : State) (e : Event) : (s.bracket e).run = s.run := by simp [State.bracket]
@[simp] theorem State.bracket_ps (s : State) (e : Event) : (s.bracket e).ps = s.ps := by simp [State.bracket]
@[simp] theorem State.bracket_lastBusy (s : State) (e : Event) : (s.bracket e).lastBusy = s.lastBusy := by simp [State.bracket]
@[simp] theorem State.bracket_err (s : State) (e : Event) : (s.bracket e).err = s.err := by simp [State.bracket]
@[simp] theorem State.bracket_rej (s : State) (e : Event) : (s.bracket e).rej = s.rej := by simp [State.bracket]
@[simp] theorem State.bracket_rstL (s : State) (e : Event) : (s.bracket e).rstL = s.rstL := by simp [State.bracket]
@[simp] theorem State.bracket_dcL (s : State) (e : Event) : (s.bracket e).dcL = s.dcL := by simp [State.bracket]
@[simp] theorem State.bracket_csL (s : State) (e : Event) : (s.bracket e).csL = !s.cfg.csAssertLevel := by simp [State.bracket]
@[simp] theorem State.bracket_fbBlack (s : State) (e : Event) : (s.bracket e).fbBlack = s.fbBlack := by simp [State.bracket]
@[simp] theorem State.bracket_fbRed (s : State) (e : Event) : (s.bracket e).fbRed = s.fbRed := by simp [State.bracket]
@[simp] theorem State.bracket_trace (s : State) (e : Event) : (s.bracket e).trace = s.trace ++ [.L .cs s.cfg.csAssertLevel, e, .L .cs (!s.cfg.csAssertLevel)] := by simp [State.bracket]
@[simp] theorem State.bracket_sched (s : State) (e : Event) : (s.bracket e).sched = s.sched := by simp [State.bracket]
@[simp] theorem State.bracket_hostReads (s : State) (e : Event) : (s.bracket e).hostReads = s.hostReads := by simp [State.bracket]
@[simp] theorem State.bracket_panel (s : State) (e : Event) : (s.bracket e).panel = s.panel := by simp [State.bracket]
@[simp] theorem State.bracket_bus (s : State) (e : Event) : (s.bracket e).bus = s.bus := by simp [State.bracket]
@[simp] theorem State.bracket_race (s : State) (e : Event) : (s.bracket e).race = s.race := by simp [State.bracket]
@[simp] theorem State.bracket_raced (s : State) (e : Event) : (s.bracket e).raced = s.raced := by simp [State.bracket]
@[simp] theorem State.bracket_draws (s : State) (e : Event) : (s.bracket e).draws = s.draws := by simp [State.bracket]
@[simp] theorem State.bracket_resets (s : State) (e : Event) : (s.bracket e).resets = s.resets := by simp [State.bracket]

@[simp] theorem State.readBlack_cfg (s : State) (a : Nat) : (s.readBlack a).cfg = s.cfg := by unfold State.readBlack; split <;> rfl
@[simp] theorem State.readBlack_opr (s : State) (a : Nat) : (s.readBlack a).opr = s.opr := by unfold State.readBlack; split <;> rfl
@[simp] theorem State.readBlack_seq (s : State) (a : Nat) : (s.readBlack a).seq = s.seq := by unfold State.readBlack; split <;> rfl
@[simp] theorem State.readBlack_polls (s : State) (a : Nat) : (s.readBlack a).polls = s.polls := by unfold State.readBlack; split <;> rfl
@[simp] theorem State.readBlack_pollWraps (s : State) (a : Nat) : (s.readBlack a).pollWraps = s.pollWraps := by unfold State.readBlack; split <;> rfl
@[simp] theorem State.readBlack_run (s : State) (a : Nat) : (s.readBlack a).run = s.run := by unfold State.readBlack; split <;> rfl
@[simp] theorem State.readBlack_ps (s : State) (a : Nat) : (s.readBlack a).ps = s.ps := by unfold State.readBlack; split <;> rfl
@[simp] theorem State.readBlack_lastBusy (s : State) (a : Nat) : (s.readBlack a).lastBusy = s.lastBusy := by unfold State.readBlack; split <;> rfl
@[simp] theorem State.readBlack_err (s : State) (a : Nat) : (s.readBlack a).err = s.err := by unfold State.readBlack; split <;> rfl
@[simp] theorem State.readBlack_rej (s : State) (a : Nat) : (s.readBlack a).rej = s.rej := by unfold State.readBlack; split <;> rfl
@[simp] theorem State.readBlack_rstL (s : State) (a : Nat) : (s.readBlack a).rstL = s.rstL := by unfold State.readBlack; split <;> rfl
@[simp] theorem State.readBlack_dcL (s : State) (a : Nat) : (s.readBlack a).dcL = s.dcL := by unfold State.readBlack; split <;> rfl
@[simp] theorem State.readBlack_csL (s : State) (a : Nat) : (s.readBlack a).csL = s.csL := by unfold State.readBlack; split <;> rfl
@[simp] theorem State.readBlack_fbBlack (s : State) (a : Nat) : (s.readBlack a).fbBlack = s.fbBlack := by unfold State.readBlack; split <;> rfl
@[simp] theorem State.readBlack_fbRed (s : State) (a : Nat) : (s.readBlack a).fbRed = s.fbRed := by unfold State.readBlack; split <;> rfl
@[simp] theorem State.readBlack_trace (s : State) (a : Nat) : (s.readBlack a).trace = s.trace := by unfold State.readBlack; split <;> rfl
@[simp] theorem State.readBlack_sched (s : State) (a : Nat) : (s.readBlack a).sched = s.sched := by unfold State.readBlack; split <;> rfl
@[simp] theorem State.readBlack_hostReads (s : State) (a : Nat) : (s.readBlack a).hostReads = s.hostReads := by unfold State.readBlack; split <;> rfl
@[simp] theorem State.readBlack_panel (s : State) (a : Nat) : (s.readBlack a).panel = s.panel := by unfold State.readBlack; split <;> rfl
@[simp] theorem State.readBlack_bus (s : State) (a : Nat) : (s.readBlack a).bus = s.bus := by unfold State.readBlack; split <;> rfl
@[simp] theorem State.readBlack_race (s : State) (a : Nat) : (s.readBlack a).race = if s.oldBytes a = [] then s.race else s.race.rest := by unfold State.readBlack; split <;> rfl
@[simp] theorem State.readBlack_raced (s : State) (a : Nat) : (s.readBlack a).raced = s.raced := by unfold State.readBlack; split <;> rfl
@[simp] theorem State.readBlack_draws (s : State) (a : Nat) : (s.readBlack a).draws = if s.oldBytes a = [] then s.draws else s.draws + 1 := by unfold State.readBlack; split <;> rfl
@[simp] theorem State.readBlack_resets (s : State) (a : Nat) : (s.readBlack a).resets = s.resets := by unfold State.readBlack; split <;> rfl

@[simp] theorem State.waitDone_cfg (s : State) : s.waitDone.cfg = s.cfg := rfl
@[simp] theorem State.waitDone_opr (s : State) : s.waitDone.opr = s.opr := rfl
@[simp] theorem State.waitDone_seq (s : State) : s.waitDone.seq = s.seq + 1 := rfl
@[simp] theorem State.waitDone_polls (s : State) : s.waitDone.polls = 0 := rfl
@[simp] theorem State.waitDone_pollWraps (s : State) : s.waitDone.pollWraps = 0 := rfl
@[simp] theorem State.waitDone_run (s : State) : s.waitDone.run = s.run := rfl
@[simp] theorem State.waitDone_ps (s : State) : s.waitDone.ps = s.ps := rfl
@[simp] theorem State.waitDone_lastBusy (s : State) : s.waitDone.lastBusy = false := rfl
@[simp] theorem State.waitDone_err (s : State) : s.waitDone.err = s.err := rfl
@[simp] theorem State.waitDone_rej (s : State) : s.waitDone.rej = s.rej := rfl
@[simp] theorem State.waitDone_rstL (s : State) : s.waitDone.rstL = s.rstL := rfl
@[simp] theorem State.waitDone_dcL (s : State) : s.waitDone.dcL = s.dcL := rfl
@[simp] theorem State.waitDone_csL (s : State) : s.waitDone.csL = s.csL := rfl
@[simp] theorem State.waitDone_fbBlack (s : State) : s.waitDone.fbBlack = s.fbBlack := rfl
@[simp] theorem State.waitDone_fbRed (s : State) : s.waitDone.fbRed = s.fbRed := rfl
@[simp] theorem State.waitDone_trace (s : State) : s.waitDone.trace = s.trace := rfl
@[simp] theorem State.waitDone_sched (s : State) : s.waitDone.sched = s.sched := rfl
@[simp] theorem State.waitDone_hostReads (s : State) : s.waitDone.hostReads = s.hostReads := rfl
@[simp] theorem State.waitDone_panel (s : State) : s.waitDone.panel = s.panel := rfl
@[simp] theorem State.waitDone_bus (s : State) : s.waitDone.bus = s.bus := rfl
@[simp] theorem State.waitDone_race (s : State) : s.waitDone.race = s.race := rfl
@[simp] theorem State.waitDone_raced (s : State) : s.waitDone.raced = s.raced := rfl
@[simp] theorem State.waitDone_draws (s : State) : s.waitDone.draws = s.draws := rfl
@[simp] theorem State.waitDone_resets (s : State) : s.waitDone.resets = s.resets := rfl

@[simp] theorem State.blockReset_cfg (s : State) : s.blockReset.cfg = s.cfg := rfl
@[simp] theorem State.blockReset_opr (s : State) : s.blockReset.opr = 0 := rfl
@[simp] theorem State.blockReset_seq (s : State) : s.blockReset.seq = 0 := rfl
@[simp] theorem State.blockReset_polls (s : State) : s.blockReset.polls = 0 := rfl
@[simp] theorem State.blockReset_pollWraps (s : State) : s.blockReset.pollWraps = 0 := rfl
@[simp] theorem State.blockReset_run (s : State) : s.blockReset.run = false := rfl
@[simp] theorem State.blockReset_ps (s : State) : s.blockReset.ps = .uninit := rfl
@[simp] theorem State.blockReset_lastBusy (s : State) : s.blockReset.lastBusy = false := rfl
@[simp] theorem State.blockReset_err (s : State) : s.blockReset.err = .none := rfl
@[simp] theorem State.blockReset_rej (s : State) : s.blockReset.rej = .none := rfl
@[simp] theorem State.blockReset_rstL (s : State) : s.blockReset.rstL = true := rfl
@[simp] theorem State.blockReset_dcL (s : State) : s.blockReset.dcL = false := rfl
@[simp] theorem State.blockReset_csL (s : State) : s.blockReset.csL = !s.cfg.csAssertLevel := rfl
@[simp] theorem State.blockReset_fbBlack (s : State) : s.blockReset.fbBlack = [] := rfl
@[simp] theorem State.blockReset_fbRed (s : State) : s.blockReset.fbRed = [] := rfl
@[simp] theorem State.blockReset_trace (s : State) : s.blockReset.trace = s.trace := rfl
@[simp] theorem State.blockReset_sched (s : State) : s.blockReset.sched = s.sched := rfl
@[simp] theorem State.blockReset_hostReads (s : State) : s.blockReset.hostReads = s.hostReads := rfl
@[simp] theorem State.blockReset_panel (s : State) : s.blockReset.panel = s.panel := rfl
@[simp] theorem State.blockReset_bus (s : State) : s.blockReset.bus = s.bus := rfl
@[simp] theorem State.blockReset_race (s : State) : s.blockReset.race = s.race := rfl
@[simp] theorem State.blockReset_raced (s : State) : s.blockReset.raced = [] := rfl
@[simp] theorem State.blockReset_draws (s : State) : s.blockReset.draws = s.draws := rfl
@[simp] theorem State.blockReset_resets (s : State) : s.blockReset.resets = s.resets + 1 := rfl

@[simp] theorem State.hostSaw_cfg (s : State) (r : HostRead) : (s.hostSaw r).cfg = s.cfg := rfl
@[simp] theorem State.hostSaw_opr (s : State) (r : HostRead) : (s.hostSaw r).opr = s.opr := rfl
@[simp] theorem State.hostSaw_seq (s : State) (r : HostRead) : (s.hostSaw r).seq = s.seq := rfl
@[simp] theorem State.hostSaw_polls (s : State) (r : HostRead) : (s.hostSaw r).polls = s.polls := rfl
@[simp] theorem State.hostSaw_pollWraps (s : State) (r : HostRead) : (s.hostSaw r).pollWraps = s.pollWraps := rfl
@[simp] theorem State.hostSaw_run (s : State) (r : HostRead) : (s.hostSaw r).run = s.run := rfl
@[simp] theorem State.hostSaw_ps (s : State) (r : HostRead) : (s.hostSaw r).ps = s.ps := rfl
@[simp] theorem State.hostSaw_lastBusy (s : State) (r : HostRead) : (s.hostSaw r).lastBusy = s.lastBusy := rfl
@[simp] theorem State.hostSaw_err (s : State) (r : HostRead) : (s.hostSaw r).err = s.err := rfl
@[simp] theorem State.hostSaw_rej (s : State) (r : HostRead) : (s.hostSaw r).rej = s.rej := rfl
@[simp] theorem State.hostSaw_rstL (s : State) (r : HostRead) : (s.hostSaw r).rstL = s.rstL := rfl
@[simp] theorem State.hostSaw_dcL (s : State) (r : HostRead) : (s.hostSaw r).dcL = s.dcL := rfl
@[simp] theorem State.hostSaw_csL (s : State) (r : HostRead) : (s.hostSaw r).csL = s.csL := rfl
@[simp] theorem State.hostSaw_fbBlack (s : State) (r : HostRead) : (s.hostSaw r).fbBlack = s.fbBlack := rfl
@[simp] theorem State.hostSaw_fbRed (s : State) (r : HostRead) : (s.hostSaw r).fbRed = s.fbRed := rfl
@[simp] theorem State.hostSaw_trace (s : State) (r : HostRead) : (s.hostSaw r).trace = s.trace := rfl
@[simp] theorem State.hostSaw_sched (s : State) (r : HostRead) : (s.hostSaw r).sched = s.sched := rfl
@[simp] theorem State.hostSaw_hostReads (s : State) (r : HostRead) : (s.hostSaw r).hostReads = s.hostReads ++ [r] := rfl
@[simp] theorem State.hostSaw_panel (s : State) (r : HostRead) : (s.hostSaw r).panel = s.panel := rfl
@[simp] theorem State.hostSaw_bus (s : State) (r : HostRead) : (s.hostSaw r).bus = s.bus := rfl
@[simp] theorem State.hostSaw_race (s : State) (r : HostRead) : (s.hostSaw r).race = s.race := rfl
@[simp] theorem State.hostSaw_raced (s : State) (r : HostRead) : (s.hostSaw r).raced = s.raced := rfl
@[simp] theorem State.hostSaw_draws (s : State) (r : HostRead) : (s.hostSaw r).draws = s.draws := rfl
@[simp] theorem State.hostSaw_resets (s : State) (r : HostRead) : (s.hostSaw r).resets = s.resets := rfl

@[simp] theorem State.turnTaken_cfg (s : State) : s.turnTaken.cfg = s.cfg := rfl
@[simp] theorem State.turnTaken_opr (s : State) : s.turnTaken.opr = s.opr := rfl
@[simp] theorem State.turnTaken_seq (s : State) : s.turnTaken.seq = s.seq := rfl
@[simp] theorem State.turnTaken_polls (s : State) : s.turnTaken.polls = s.polls := rfl
@[simp] theorem State.turnTaken_pollWraps (s : State) : s.turnTaken.pollWraps = s.pollWraps := rfl
@[simp] theorem State.turnTaken_run (s : State) : s.turnTaken.run = s.run := rfl
@[simp] theorem State.turnTaken_ps (s : State) : s.turnTaken.ps = s.ps := rfl
@[simp] theorem State.turnTaken_lastBusy (s : State) : s.turnTaken.lastBusy = s.lastBusy := rfl
@[simp] theorem State.turnTaken_err (s : State) : s.turnTaken.err = s.err := rfl
@[simp] theorem State.turnTaken_rej (s : State) : s.turnTaken.rej = s.rej := rfl
@[simp] theorem State.turnTaken_rstL (s : State) : s.turnTaken.rstL = s.rstL := rfl
@[simp] theorem State.turnTaken_dcL (s : State) : s.turnTaken.dcL = s.dcL := rfl
@[simp] theorem State.turnTaken_csL (s : State) : s.turnTaken.csL = s.csL := rfl
@[simp] theorem State.turnTaken_fbBlack (s : State) : s.turnTaken.fbBlack = s.fbBlack := rfl
@[simp] theorem State.turnTaken_fbRed (s : State) : s.turnTaken.fbRed = s.fbRed := rfl
@[simp] theorem State.turnTaken_trace (s : State) : s.turnTaken.trace = s.trace := rfl
@[simp] theorem State.turnTaken_sched (s : State) : s.turnTaken.sched = s.sched.tail := rfl
@[simp] theorem State.turnTaken_hostReads (s : State) : s.turnTaken.hostReads = s.hostReads := rfl
@[simp] theorem State.turnTaken_panel (s : State) : s.turnTaken.panel = s.panel := rfl
@[simp] theorem State.turnTaken_bus (s : State) : s.turnTaken.bus = s.bus := rfl
@[simp] theorem State.turnTaken_race (s : State) : s.turnTaken.race = s.race := rfl
@[simp] theorem State.turnTaken_raced (s : State) : s.turnTaken.raced = s.raced := rfl
@[simp] theorem State.turnTaken_draws (s : State) : s.turnTaken.draws = s.draws := rfl
@[simp] theorem State.turnTaken_resets (s : State) : s.turnTaken.resets = s.resets := rfl

@[simp] theorem State.readSrc_cfg (s : State) (src : ByteSrc) : (s.readSrc src).cfg = s.cfg := by cases src <;> simp [State.readSrc]
@[simp] theorem State.readSrc_opr (s : State) (src : ByteSrc) : (s.readSrc src).opr = s.opr := by cases src <;> simp [State.readSrc]
@[simp] theorem State.readSrc_seq (s : State) (src : ByteSrc) : (s.readSrc src).seq = s.seq := by cases src <;> simp [State.readSrc]
@[simp] theorem State.readSrc_polls (s : State) (src : ByteSrc) : (s.readSrc src).polls = s.polls := by cases src <;> simp [State.readSrc]
@[simp] theorem State.readSrc_pollWraps (s : State) (src : ByteSrc) : (s.readSrc src).pollWraps = s.pollWraps := by cases src <;> simp [State.readSrc]
@[simp] theorem State.readSrc_run (s : State) (src : ByteSrc) : (s.readSrc src).run = s.run := by cases src <;> simp [State.readSrc]
@[simp] theorem State.readSrc_ps (s : State) (src : ByteSrc) : (s.readSrc src).ps = s.ps := by cases src <;> simp [State.readSrc]
@[simp] theorem State.readSrc_lastBusy (s : State) (src : ByteSrc) : (s.readSrc src).lastBusy = s.lastBusy := by cases src <;> simp [State.readSrc]
@[simp] theorem State.readSrc_err (s : State) (src : ByteSrc) : (s.readSrc src).err = s.err := by cases src <;> simp [State.readSrc]
@[simp] theorem State.readSrc_rej (s : State) (src : ByteSrc) : (s.readSrc src).rej = s.rej := by cases src <;> simp [State.readSrc]
@[simp] theorem State.readSrc_rstL (s : State) (src : ByteSrc) : (s.readSrc src).rstL = s.rstL := by cases src <;> simp [State.readSrc]
@[simp] theorem State.readSrc_dcL (s : State) (src : ByteSrc) : (s.readSrc src).dcL = s.dcL := by cases src <;> simp [State.readSrc]
@[simp] theorem State.readSrc_csL (s : State) (src : ByteSrc) : (s.readSrc src).csL = s.csL := by cases src <;> simp [State.readSrc]
@[simp] theorem State.readSrc_fbBlack (s : State) (src : ByteSrc) : (s.readSrc src).fbBlack = s.fbBlack := by cases src <;> simp [State.readSrc]
@[simp] theorem State.readSrc_fbRed (s : State) (src : ByteSrc) : (s.readSrc src).fbRed = s.fbRed := by cases src <;> simp [State.readSrc]
@[simp] theorem State.readSrc_trace (s : State) (src : ByteSrc) : (s.readSrc src).trace = s.trace := by cases src <;> simp [State.readSrc]
@[simp] theorem State.readSrc_sched (s : State) (src : ByteSrc) : (s.readSrc src).sched = s.sched := by cases src <;> simp [State.readSrc]
@[simp] theorem State.readSrc_hostReads (s : State) (src : ByteSrc) : (s.readSrc src).hostReads = s.hostReads := by cases src <;> simp [State.readSrc]
@[simp] theorem State.readSrc_panel (s : State) (src : ByteSrc) : (s.readSrc src).panel = s.panel := by cases src <;> simp [State.readSrc]
@[simp] theorem State.readSrc_bus (s : State) (src : ByteSrc) : (s.readSrc src).bus = s.bus := by cases src <;> simp [State.readSrc]
@[simp] theorem State.readSrc_raced (s : State) (src : ByteSrc) : (s.readSrc src).raced = s.raced := by cases src <;> simp [State.readSrc]
@[simp] theorem State.readSrc_resets (s : State) (src : ByteSrc) : (s.readSrc src).resets = s.resets := by cases src <;> simp [State.readSrc]

@[simp] theorem State.storePlane_cfg (s : State) (p : Plane) (a : Nat) (v : Byte) : (s.storePlane p a v).cfg = s.cfg := by cases p <;> rfl
@[simp] theorem State.storePlane_opr (s : State) (p : Plane) (a : Nat) (v : Byte) : (s.storePlane p a v).opr = s.opr := by cases p <;> rfl
@[simp] theorem State.storePlane_seq (s : State) (p : Plane) (a : Nat) (v : Byte) : (s.storePlane p a v).seq = s.seq := by cases p <;> rfl
@[simp] theorem State.storePlane_polls (s : State) (p : Plane) (a : Nat) (v : Byte) : (s.storePlane p a v).polls = s.polls := by cases p <;> rfl
@[simp] theorem State.storePlane_pollWraps (s : State) (p : Plane) (a : Nat) (v : Byte) : (s.storePlane p a v).pollWraps = s.pollWraps := by cases p <;> rfl
@[simp] theorem State.storePlane_run (s : State) (p : Plane) (a : Nat) (v : Byte) : (s.storePlane p a v).run = s.run := by cases p <;> rfl
@[simp] theorem State.storePlane_ps (s : State) (p : Plane) (a : Nat) (v : Byte) : (s.storePlane p a v).ps = s.ps := by cases p <;> rfl
@[simp] theorem State.storePlane_lastBusy (s : State) (p : Plane) (a : Nat) (v : Byte) : (s.storePlane p a v).lastBusy = s.lastBusy := by cases p <;> rfl
@[simp] theorem State.storePlane_err (s : State) (p : Plane) (a : Nat) (v : Byte) : (s.storePlane p a v).err = s.err := by cases p <;> rfl
@[simp] theorem State.storePlane_rej (s : State) (p : Plane) (a : Nat) (v : Byte) : (s.storePlane p a v).rej = s.rej := by cases p <;> rfl
@[simp] theorem State.storePlane_rstL (s : State) (p : Plane) (a : Nat) (v : Byte) : (s.storePlane p a v).rstL = s.rstL := by cases p <;> rfl
@[simp] theorem State.storePlane_dcL (s : State) (p : Plane) (a : Nat) (v : Byte) : (s.storePlane p a v).dcL = s.dcL := by cases p <;> rfl
@[simp] theorem State.storePlane_csL (s : State) (p : Plane) (a : Nat) (v : Byte) : (s.storePlane p a v).csL = s.csL := by cases p <;> rfl
@[simp] theorem State.storePlane_fbBlack (s : State) (p : Plane) (a : Nat) (v : Byte) : (s.storePlane p a v).fbBlack = if p = .black then s.fbBlack.write a v else s.fbBlack := by cases p <;> rfl
@[simp] theorem State.storePlane_fbRed (s : State) (p : Plane) (a : Nat) (v : Byte) : (s.storePlane p a v).fbRed = if p = .red then s.fbRed.write a v else s.fbRed := by cases p <;> rfl
@[simp] theorem State.storePlane_trace (s : State) (p : Plane) (a : Nat) (v : Byte) : (s.storePlane p a v).trace = s.trace := by cases p <;> rfl
@[simp] theorem State.storePlane_sched (s : State) (p : Plane) (a : Nat) (v : Byte) : (s.storePlane p a v).sched = s.sched := by cases p <;> rfl
@[simp] theorem State.storePlane_hostReads (s : State) (p : Plane) (a : Nat) (v : Byte) : (s.storePlane p a v).hostReads = s.hostReads := by cases p <;> rfl
@[simp] theorem State.storePlane_panel (s : State) (p : Plane) (a : Nat) (v : Byte) : (s.storePlane p a v).panel = s.panel := by cases p <;> rfl
@[simp] theorem State.storePlane_bus (s : State) (p : Plane) (a : Nat) (v : Byte) : (s.storePlane p a v).bus = s.bus := by cases p <;> rfl
@[simp] theorem State.storePlane_race (s : State) (p : Plane) (a : Nat) (v : Byte) : (s.storePlane p a v).race = s.race := by cases p <;> rfl
@[simp] theorem State.storePlane_raced (s : State) (p : Plane) (a : Nat) (v : Byte) : (s.storePlane p a v).raced = s.raced := by cases p <;> rfl
@[simp] theorem State.storePlane_draws (s : State) (p : Plane) (a : Nat) (v : Byte) : (s.storePlane p a v).draws = s.draws := by cases p <;> rfl
@[simp] theorem State.storePlane_resets (s : State) (p : Plane) (a : Nat) (v : Byte) : (s.storePlane p a v).resets = s.resets := by cases p <;> rfl

@[simp] theorem State.recordRace_cfg (s : State) (a : Nat) : (s.recordRace a).cfg = s.cfg := by unfold State.recordRace; split <;> rfl
@[simp] theorem State.recordRace_opr (s : State) (a : Nat) : (s.recordRace a).opr = s.opr := by unfold State.recordRace; split <;> rfl
@[simp] theorem State.recordRace_seq (s : State) (a : Nat) : (s.recordRace a).seq = s.seq := by unfold State.recordRace; split <;> rfl
@[simp] theorem State.recordRace_polls (s : State) (a : Nat) : (s.recordRace a).polls = s.polls := by unfold State.recordRace; split <;> rfl
@[simp] theorem State.recordRace_pollWraps (s : State) (a : Nat) : (s.recordRace a).pollWraps = s.pollWraps := by unfold State.recordRace; split <;> rfl
@[simp] theorem State.recordRace_run (s : State) (a : Nat) : (s.recordRace a).run = s.run := by unfold State.recordRace; split <;> rfl
@[simp] theorem State.recordRace_ps (s : State) (a : Nat) : (s.recordRace a).ps = s.ps := by unfold State.recordRace; split <;> rfl
@[simp] theorem State.recordRace_lastBusy (s : State) (a : Nat) : (s.recordRace a).lastBusy = s.lastBusy := by unfold State.recordRace; split <;> rfl
@[simp] theorem State.recordRace_err (s : State) (a : Nat) : (s.recordRace a).err = s.err := by unfold State.recordRace; split <;> rfl
@[simp] theorem State.recordRace_rej (s : State) (a : Nat) : (s.recordRace a).rej = s.rej := by unfold State.recordRace; split <;> rfl
@[simp] theorem State.recordRace_rstL (s : State) (a : Nat) : (s.recordRace a).rstL = s.rstL := by unfold State.recordRace; split <;> rfl
@[simp] theorem State.recordRace_dcL (s : State) (a : Nat) : (s.recordRace a).dcL = s.dcL := by unfold State.recordRace; split <;> rfl
@[simp] theorem State.recordRace_csL (s : State) (a : Nat) : (s.recordRace a).csL = s.csL := by unfold State.recordRace; split <;> rfl
@[simp] theorem State.recordRace_fbBlack (s : State) (a : Nat) : (s.recordRace a).fbBlack = s.fbBlack := by unfold State.recordRace; split <;> rfl
@[simp] theorem State.recordRace_fbRed (s : State) (a : Nat) : (s.recordRace a).fbRed = s.fbRed := by unfold State.recordRace; split <;> rfl
@[simp] theorem State.recordRace_trace (s : State) (a : Nat) : (s.recordRace a).trace = s.trace := by unfold State.recordRace; split <;> rfl
@[simp] theorem State.recordRace_sched (s : State) (a : Nat) : (s.recordRace a).sched = s.sched := by unfold State.recordRace; split <;> rfl
@[simp] theorem State.recordRace_hostReads (s : State) (a : Nat) : (s.recordRace a).hostReads = s.hostReads := by unfold State.recordRace; split <;> rfl
@[simp] theorem State.recordRace_panel (s : State) (a : Nat) : (s.recordRace a).panel = s.panel := by unfold State.recordRace; split <;> rfl
@[simp] theorem State.recordRace_bus (s : State) (a : Nat) : (s.recordRace a).bus = s.bus := by unfold State.recordRace; split <;> rfl
@[simp] theorem State.recordRace_race (s : State) (a : Nat) : (s.recordRace a).race = s.race := by unfold State.recordRace; split <;> rfl
@[simp] theorem State.recordRace_raced (s : State) (a : Nat) : (s.recordRace a).raced = if s.transferring then (a, s.planeByte .black a) :: s.raced else s.raced := by unfold State.recordRace; split <;> rfl
@[simp] theorem State.recordRace_draws (s : State) (a : Nat) : (s.recordRace a).draws = s.draws := by unfold State.recordRace; split <;> rfl
@[simp] theorem State.recordRace_resets (s : State) (a : Nat) : (s.recordRace a).resets = s.resets := by unfold State.recordRace; split <;> rfl

@[simp] theorem State.clearPolls_cfg (s : State) : s.clearPolls.cfg = s.cfg := rfl
@[simp] theorem State.clearPolls_opr (s : State) : s.clearPolls.opr = s.opr := rfl
@[simp] theorem State.clearPolls_seq (s : State) : s.clearPolls.seq = s.seq := rfl
@[simp] theorem State.clearPolls_polls (s : State) : s.clearPolls.polls = 0 := rfl
@[simp] theorem State.clearPolls_pollWraps (s : State) : s.clearPolls.pollWraps = 0 := rfl
@[simp] theorem State.clearPolls_run (s : State) : s.clearPolls.run = s.run := rfl
@[simp] theorem State.clearPolls_ps (s : State) : s.clearPolls.ps = s.ps := rfl
@[simp] theorem State.clearPolls_lastBusy (s : State) : s.clearPolls.lastBusy = s.lastBusy := rfl
@[simp] theorem State.clearPolls_err (s : State) : s.clearPolls.err = s.err := rfl
@[simp] theorem State.clearPolls_rej (s : State) : s.clearPolls.rej = s.rej := rfl
@[simp] theorem State.clearPolls_rstL (s : State) : s.clearPolls.rstL = s.rstL := rfl
@[simp] theorem State.clearPolls_dcL (s : State) : s.clearPolls.dcL = s.dcL := rfl
@[simp] theorem State.clearPolls_csL (s : State) : s.clearPolls.csL = s.csL := rfl
@[simp] theorem State.clearPolls_fbBlack (s : State) : s.clearPolls.fbBlack = s.fbBlack := rfl
@[simp] theorem State.clearPolls_fbRed (s : State) : s.clearPolls.fbRed = s.fbRed := rfl
@[simp] theorem State.clearPolls_trace (s : State) : s.clearPolls.trace = s.trace := rfl
@[simp] theorem State.clearPolls_sched (s : State) : s.clearPolls.sched = s.sched := rfl
@[simp] theorem State.clearPolls_hostReads (s : State) : s.clearPolls.hostReads = s.hostReads := rfl
@[simp] theorem State.clearPolls_panel (s : State) : s.clearPolls.panel = s.panel := rfl
@[simp] theorem State.clearPolls_bus (s : State) : s.clearPolls.bus = s.bus := rfl
@[simp] theorem State.clearPolls_race (s : State) : s.clearPolls.race = s.race := rfl
@[simp] theorem State.clearPolls_raced (s : State) : s.clearPolls.raced = s.raced := rfl
@[simp] theorem State.clearPolls_draws (s : State) : s.clearPolls.draws = s.draws := rfl
@[simp] theorem State.clearPolls_resets (s : State) : s.clearPolls.resets = s.resets := rfl

@[simp] theorem State.countSample_cfg (s : State) : s.countSample.cfg = s.cfg := rfl
@[simp] theorem State.countSample_opr (s : State) : s.countSample.opr = s.opr := rfl
@[simp] theorem State.countSample_seq (s : State) : s.countSample.seq = s.seq := rfl
@[simp] theorem State.countSample_polls (s : State) : s.countSample.polls = s.polls + 1 := rfl
@[simp] theorem State.countSample_pollWraps (s : State) : s.countSample.pollWraps = if s.polls = 0xFFFFFFFF then s.pollWraps + 1 else s.pollWraps := rfl
@[simp] theorem State.countSample_run (s : State) : s.countSample.run = s.run := rfl
@[simp] theorem State.countSample_ps (s : State) : s.countSample.ps = s.ps := rfl
@[simp] theorem State.countSample_lastBusy (s : State) : s.countSample.lastBusy = s.lastBusy := rfl
@[simp] theorem State.countSample_err (s : State) : s.countSample.err = s.err := rfl
@[simp] theorem State.countSample_rej (s : State) : s.countSample.rej = s.rej := rfl
@[simp] theorem State.countSample_rstL (s : State) : s.countSample.rstL = s.rstL := rfl
@[simp] theorem State.countSample_dcL (s : State) : s.countSample.dcL = s.dcL := rfl
@[simp] theorem State.countSample_csL (s : State) : s.countSample.csL = s.csL := rfl
@[simp] theorem State.countSample_fbBlack (s : State) : s.countSample.fbBlack = s.fbBlack := rfl
@[simp] theorem State.countSample_fbRed (s : State) : s.countSample.fbRed = s.fbRed := rfl
@[simp] theorem State.countSample_trace (s : State) : s.countSample.trace = s.trace := rfl
@[simp] theorem State.countSample_sched (s : State) : s.countSample.sched = s.sched := rfl
@[simp] theorem State.countSample_hostReads (s : State) : s.countSample.hostReads = s.hostReads := rfl
@[simp] theorem State.countSample_panel (s : State) : s.countSample.panel = s.panel := rfl
@[simp] theorem State.countSample_bus (s : State) : s.countSample.bus = s.bus := rfl
@[simp] theorem State.countSample_race (s : State) : s.countSample.race = s.race := rfl
@[simp] theorem State.countSample_raced (s : State) : s.countSample.raced = s.raced := rfl
@[simp] theorem State.countSample_draws (s : State) : s.countSample.draws = s.draws := rfl
@[simp] theorem State.countSample_resets (s : State) : s.countSample.resets = s.resets := rfl

/-! The busy samples seen in the current wait: cleared with `POLLS`, one more at a busy sample, else as before. -/

@[simp] theorem State.emit_busySamples (s : State) (e : Event) : (s.emit e).busySamples = s.busySamples := by simp [State.busySamples]
@[simp] theorem State.drive_busySamples (s : State) (line : Line) (level : Level) : (s.drive line level).busySamples = s.busySamples := by simp [State.busySamples]
@[simp] theorem State.advance_busySamples (s : State) : s.advance.busySamples = s.busySamples := by simp [State.busySamples]
@[simp] theorem State.abort_busySamples (s : State) (code : ErrCode) : (s.abort code).busySamples = s.busySamples := by simp [State.busySamples]
@[simp] theorem State.refuse_busySamples (s : State) (verdict : RejCode) : (s.refuse verdict).busySamples = s.busySamples := by simp [State.busySamples]
@[simp] theorem State.accept_busySamples (s : State) (q : Half) : (s.accept q).busySamples = 0 := by simp [State.busySamples]
@[simp] theorem State.sampled_busySamples (s : State) : s.sampled.busySamples = s.busySamples := by simp [State.busySamples]
@[simp] theorem State.askedBus_busySamples (s : State) : s.askedBus.busySamples = s.busySamples := by simp [State.busySamples]
@[simp] theorem State.askedRace_busySamples (s : State) : s.askedRace.busySamples = s.busySamples := by simp [State.busySamples]
@[simp] theorem State.bracket_busySamples (s : State) (e : Event) : (s.bracket e).busySamples = s.busySamples := by simp [State.busySamples]
@[simp] theorem State.readBlack_busySamples (s : State) (a : Nat) : (s.readBlack a).busySamples = s.busySamples := by simp [State.busySamples]
@[simp] theorem State.waitDone_busySamples (s : State) : s.waitDone.busySamples = 0 := by simp [State.busySamples]
@[simp] theorem State.blockReset_busySamples (s : State) : s.blockReset.busySamples = 0 := by simp [State.busySamples]
@[simp] theorem State.hostSaw_busySamples (s : State) (r : HostRead) : (s.hostSaw r).busySamples = s.busySamples := by simp [State.busySamples]
@[simp] theorem State.turnTaken_busySamples (s : State) : s.turnTaken.busySamples = s.busySamples := by simp [State.busySamples]
@[simp] theorem State.readSrc_busySamples (s : State) (src : ByteSrc) : (s.readSrc src).busySamples = s.busySamples := by simp [State.busySamples]
@[simp] theorem State.storePlane_busySamples (s : State) (p : Plane) (a : Nat) (v : Byte) : (s.storePlane p a v).busySamples = s.busySamples := by simp [State.busySamples]
@[simp] theorem State.recordRace_busySamples (s : State) (a : Nat) : (s.recordRace a).busySamples = s.busySamples := by simp [State.busySamples]
@[simp] theorem State.clearPolls_busySamples (s : State) : s.clearPolls.busySamples = 0 := by simp [State.busySamples]

/-- A busy sample is one more, also where `POLLS` wraps. -/
@[simp] theorem State.countSample_busySamples (s : State) : s.countSample.busySamples = s.busySamples + 1 := by
  have one : ∀ x : Word, (x + 1).toNat = (x.toNat + 1) % 2 ^ 32 := fun x => BitVec.toNat_add x 1
  have top : (0xFFFFFFFF : Word).toNat = 4294967295 := by decide
  have wraps : s.polls = 0xFFFFFFFF ↔ s.polls.toNat = 4294967295 := by rw [← BitVec.toNat_inj, top]
  simp only [State.busySamples, State.countSample_polls, State.countSample_pollWraps, one, wraps]
  have := s.polls.isLt
  split <;> omega

end Sys2Proof.Machine
end

