-- ==== Sys2Proof/Laws/Ops.lean ====
section
/-! SUPPORT. What each shared operation can do, said once: the answers of the environment, the bracket, the bytes a source
delivers, and every next state of a micro-op. -/

namespace Sys2Proof.Machine
open Sys2Proof

/-! The answers of the environment. -/

/-- Where every coming answer is `x`, so is the next. -/
theorem Answers.Always.next {α : Type} {a : Answers α} {x : α} (h : a.Always x) (free : α) : a.next free = x := by
  unfold Answers.next
  split
  · rename_i y ys hy; exact h.1 y (by simp [hy])
  · simp [h.2]

/-- Where every coming answer is `x`, it stays so once one has been taken. -/
theorem Answers.Always.rest {α : Type} {a : Answers α} {x : α} (h : a.Always x) : a.rest.Always x :=
  ⟨fun y hy => h.1 y (List.mem_of_mem_tail hy), h.2⟩

/-- Where every coming answer is `x`, it stays so once any number has been taken. -/
theorem Answers.Always.drop {α : Type} {a : Answers α} {x : α} (h : a.Always x) (n : Nat) :
    ({ a with script := a.script.drop n } : Answers α).Always x :=
  ⟨fun y hy => h.1 y (List.mem_of_mem_drop hy), h.2⟩

/-! The bracket and the abort. -/

/-- The chip-select bracket: three events, and the line released (40_bus_transport.md R103, R104). -/
theorem State.bracket_eq (s : State) (e : Event) :
    s.bracket e = { s with
      csL := !s.cfg.csAssertLevel
      trace := s.trace ++ [.L .cs s.cfg.csAssertLevel, e, .L .cs (!s.cfg.csAssertLevel)] } := by
  simp [State.bracket, State.drive, State.latch, State.emit]

/-- A bus fault always has a code. -/
theorem State.busFaultCode_ne (s : State) : s.busFaultCode ≠ .none := by
  unfold State.busFaultCode; split <;> simp

/-! The samples of a wait. -/

/-- A wait without a bound never times out. -/
theorem State.timesOut_of_none {s : State} (h : s.cfg.waitTimeout = none) : s.timesOut = false := by
  simp [State.timesOut, h]

/-- A wait bounded by `n` times out at its `n`-th busy sample and not before (41_framing_handshake_reset.md R123). -/
theorem State.timesOut_of_some {s : State} {n : Nat} (h : s.cfg.waitTimeout = some n) :
    s.timesOut = decide (n ≤ s.busySamples + 1) := by
  simp [State.timesOut, h]

/-! The bytes a source delivers. -/

/-- The two spellings of the complement (00_scope.md, Notation). -/
theorem complement_eq (x : Byte) : ~~~x = 255 - x := by revert x; decide

/-- Nothing is raced where nothing has been written during the operation. -/
theorem State.oldBytes_of_calm {s : State} (h : s.raced = []) (a : Nat) : s.oldBytes a = [] := by
  simp [State.oldBytes, h]

/-- Where nothing is raced the engine reads the byte stored. -/
theorem State.blackByte_of_calm {s : State} (h : s.raced = []) (a : Nat) : s.blackByte a = s.planeByte .black a := by
  simp [State.blackByte, State.oldBytes_of_calm h]

/-- Where nothing is raced a source delivers the byte it names. -/
theorem State.srcByte_of_calm {s : State} (h : s.raced = []) (src : ByteSrc) : s.srcByte src = s.wireByte src := by
  cases src <;> simp [State.srcByte, State.wireByte, State.blackByte_of_calm h, complement_eq]

/-- Where nothing is raced reading a source changes nothing. -/
theorem State.readSrc_of_calm {s : State} (h : s.raced = []) (src : ByteSrc) : s.readSrc src = s := by
  cases src <;> simp [State.readSrc, State.readBlack, State.oldBytes_of_calm h]

/-- A pick among a byte and the older ones is one of them. -/
theorem pick_mem {l : List Byte} {x : Byte} (k : Nat) : (x :: l).getD (k % l.length.succ) x ∈ x :: l := by
  have h : k % l.length.succ < (x :: l).length := Nat.mod_lt _ (Nat.succ_pos _)
  rw [List.getD_eq_getElem _ _ h]
  exact List.getElem_mem h

/-- The engine reads a byte the location has held during the operation (20_memory.md R66). -/
theorem State.blackByte_mem (s : State) (a : Nat) : s.blackByte a ∈ s.planeByte .black a :: s.oldBytes a := by
  unfold State.blackByte
  split
  · exact List.mem_cons_self
  · exact pick_mem _

/-- A source delivers a byte it may deliver (20_memory.md R66). -/
theorem State.srcByte_mayDeliver (s : State) (src : ByteSrc) : s.mayDeliver src (s.srcByte src) := by
  cases src with
  | imm b => rfl
  | fbb a => exact s.blackByte_mem a
  | fbbn a =>
    have e : ∀ x : Byte, 255 - ~~~x = x := by decide
    simp only [State.mayDeliver, State.srcByte, e]
    exact s.blackByte_mem a
  | lutb t i => rfl

/-! The micro-ops. -/

/-- A micro-op as an instruction has the micro-op's effect. -/
theorem exec_instr (u : Uop) (s : State) : exec u.instr s = runUop u s := by cases u <;> rfl

/-- Every next state a micro-op can answer. -/
theorem runUop_next_cases {u : Uop} {s t : State} (h : runUop u s = .next t) :
    (∃ line level, u = .setl line level ∧ t = (s.drive line level).advance) ∨
    (∃ ms, u = .dly ms ∧ t = (s.emit (.T ms)).advance) ∨
    (∃ src, u = .xfer src ∧ src.wf s.cfg = true ∧ s.busAnswer = .ok ∧ t = s.askedBus.sendByte src) ∨
    (∃ src, u = .xfer src ∧ src.wf s.cfg = true ∧ s.busAnswer = .fault ∧ t = s.askedBus.sendFault) ∨
    (u = .waiti ∧ s.busyLevel = s.cfg.busyIdleLevel ∧ t = s.sampled.waitDone) ∨
    (u = .waiti ∧ s.busyLevel ≠ s.cfg.busyIdleLevel ∧ t = s.sampled.waitBusy) ∨
    (∃ ps, u = .setps ps ∧ t = ({ s with ps := panelStateOf ps } : State).advance) ∨
    (u = .endOp ∧ t = { s with run := false }) := by
  cases u with
  | setl line level => simp only [runUop, opSetl, Host.Outcome.next.injEq] at h; subst h; exact .inl ⟨line, level, rfl, rfl⟩
  | dly ms => simp only [runUop, opDly, Host.Outcome.next.injEq] at h; subst h; simp
  | xfer src =>
    simp only [runUop, opXfer] at h
    split at h
    · rename_i hw
      split at h <;> rename_i hb <;> simp only [Host.Outcome.next.injEq] at h <;> subst h <;> simp [hw, hb]
    · simp at h
  | waiti =>
    simp only [runUop, opWaiti] at h
    split at h <;> rename_i hb <;> simp only [Host.Outcome.next.injEq] at h <;> subst h <;> simp [hb]
  | setps ps => simp only [runUop, opSetps, Host.Outcome.next.injEq] at h; subst h; simp
  | endOp => simp only [runUop, opEnd, Host.Outcome.next.injEq] at h; subst h; simp

/-- Two lists of micro-ops, one after the other. -/
theorem runUops_append (a b : List Uop) (s : State) :
    runUops (a ++ b) s =
      match runUops a s with
      | .next t => runUops b t
      | .fault r => .fault r
      | .refused r => .refused r := by
  induction a generalizing s with
  | nil => rfl
  | cons u us ih =>
    simp only [List.cons_append, runUops]
    cases hr : s.run with
    | false => cases b <;> simp [runUops, hr]
    | true =>
      simp only [if_true]
      cases hu : runUop u s <;> simp [ih]

/-- Once `RUN = 0` no micro-op of a list runs. -/
theorem runUops_of_stopped (us : List Uop) {s : State} (h : s.run = false) : runUops us s = .next s := by
  cases us <;> simp [runUops, h]

/-- The meaning of a wire frame is its micro-ops one after another, and it is a command byte and its data bytes. -/
theorem exec_frame {s : State} {i : Instr} {us : List Uop} (h : frameUops s.cfg i = some us) :
    exec i s = runUops us s ∧ ∃ o l, us = frame o l := by
  cases i <;> simp only [frameUops, Option.some.injEq, reduceCtorEq] at h <;> subst h <;> exact ⟨rfl, _, _, rfl⟩

/-- The meaning of a host operation is the verdict on its write of `REQ` (10_state.md R31). -/
theorem exec_operation {i : Instr} (h : isOperation i = true) (s : State) : exec i s = .next (s.request i) := by
  cases i <;> first | rfl | simp [isOperation] at h

/-! No instruction is refused. -/

/-- A micro-op is never refused. -/
theorem runUop_not_refused (u : Uop) (s : State) (r : Refusal) : runUop u s ≠ .refused r := by
  cases u with
  | xfer src => simp only [runUop, opXfer]; split <;> [split; skip] <;> simp
  | waiti => simp only [runUop, opWaiti]; split <;> simp
  | setl _ _ | dly _ | setps _ | endOp => simp [runUop, opSetl, opDly, opSetps, opEnd]

/-- Nor is a list of micro-ops. -/
theorem runUops_not_refused (us : List Uop) (s : State) (r : Refusal) : runUops us s ≠ .refused r := by
  induction us generalizing s with
  | nil => simp [runUops]
  | cons u us ih =>
    simp only [runUops]
    split
    · cases hu : runUop u s with
      | next s' => exact ih s'
      | fault r => simp
      | refused r => exact absurd hu (runUop_not_refused u s r)
    · simp

/-- No instruction is refused: `exec` answers a next state or a fault. -/
theorem exec_not_refused (i : Instr) (s : State) (r : Refusal) : exec i s ≠ .refused r := by
  cases i <;> first
    | exact runUop_not_refused (.setl _ _) s r
    | exact runUop_not_refused (.dly _) s r
    | exact runUop_not_refused (.xfer _) s r
    | exact runUop_not_refused .waiti s r
    | exact runUop_not_refused (.setps _) s r
    | exact runUop_not_refused .endOp s r
    | (rw [(exec_frame rfl).1]; exact runUops_not_refused _ s r)
    | (rw [exec_operation rfl]; simp)
    | simp [exec, execReservedOp]

end Sys2Proof.Machine
end

