-- ==== Sys2Proof/Laws/PerInstr.lean ====
section
/-! SUPPORT. Facts of each instruction as syntax, one lemma a constructor. -/

/-! `WordShape`: the shape of the request word (30_encoding.md R70, R72, R81). An operation's word has `RSV = 0` and an
`OP` below `0xC`; a word of the reserved range has an `OP` from `0xC` on; no other row has a word. -/
namespace Sys2Proof.Laws.WordShape
open Sys2Proof Sys2Proof.Machine

/-- The shape of the request word of an instruction, where it has one. -/
def Statement (i : Instr) : Prop :=
  ∀ w : Half, requestWord i = some w →
    (isOperation i = true ∧ w.extractLsb' 8 4 = 0#4 ∧ w.extractLsb' 12 4 < 0xC#4) ∨
      (isOperation i = false ∧ 0xC#4 ≤ w.extractLsb' 12 4)

/-- The shape of an operation's word. -/
theorem of_reqWord {i : Instr} (op : BitVec 4) (arg : Byte) (hi : isOperation i = true) (ho : op < 0xC#4)
    (hw : requestWord i = some (reqWord op arg)) : Statement i := by
  intro w h
  rw [hw] at h
  cases h
  exact .inl ⟨hi, reqWord_rsv op arg, by rw [reqWord_op]; exact ho⟩

/-- An instruction without a word. -/
theorem of_none {i : Instr} (h : requestWord i = none) : Statement i := by
  intro w hw
  rw [h] at hw
  cases hw

theorem waitIdle : Statement .waitIdle := of_reqWord _ _ rfl (by decide) rfl

theorem sendCommand (opcode : Byte) : Statement (.sendCommand opcode) := of_reqWord _ _ rfl (by decide) rfl

theorem sendData (byte : Byte) : Statement (.sendData byte) := of_reqWord _ _ rfl (by decide) rfl

theorem reset : Statement .reset := of_reqWord _ _ rfl (by decide) rfl

theorem initPanel : Statement .initPanel := of_reqWord _ _ rfl (by decide) rfl

theorem loadLut (table : BitVec 3) : Statement (.loadLut table) := of_reqWord _ _ rfl (by decide) rfl

theorem loadLutBw : Statement .loadLutBw := of_reqWord _ _ rfl (by decide) rfl

theorem loadLutRed : Statement .loadLutRed := of_reqWord _ _ rfl (by decide) rfl

theorem displayFrame (mode : UpdateMode) (full hl : Bool) : Statement (.displayFrame mode full hl) := of_reqWord _ _ rfl (by decide) rfl

theorem sleep : Statement .sleep := of_reqWord _ _ rfl (by decide) rfl

theorem clearToWhite : Statement .clearToWhite := of_reqWord _ _ rfl (by decide) rfl

theorem showSession (alarm : Bool) : Statement (.showSession alarm) := of_reqWord _ _ rfl (by decide) rfl

theorem reservedOp (x : BitVec 14) : Statement (.reservedOp x) := by
  intro w h
  cases h
  exact .inr ⟨rfl, (reserved_iff _).mpr (by rw [reserved_toNat]; omega)⟩

theorem fSwreset : Statement .fSwreset := of_none rfl

theorem fDriverOutput : Statement .fDriverOutput := of_none rfl

theorem fDataEntry : Statement .fDataEntry := of_none rfl

theorem fRamXWindow : Statement .fRamXWindow := of_none rfl

theorem fRamYWindow : Statement .fRamYWindow := of_none rfl

theorem fBorder : Statement .fBorder := of_none rfl

theorem fTempSensor : Statement .fTempSensor := of_none rfl

theorem fUpdateCtrl1 : Statement .fUpdateCtrl1 := of_none rfl

theorem fRamXCounter : Statement .fRamXCounter := of_none rfl

theorem fRamYCounter : Statement .fRamYCounter := of_none rfl

theorem fLut0Vcom : Statement .fLut0Vcom := of_none rfl

theorem fLut1White : Statement .fLut1White := of_none rfl

theorem fLut2Black : Statement .fLut2Black := of_none rfl

theorem fLut3Gray1 : Statement .fLut3Gray1 := of_none rfl

theorem fLut4Gray2 : Statement .fLut4Gray2 := of_none rfl

theorem fLut5Vcom1 : Statement .fLut5Vcom1 := of_none rfl

theorem fLut6Red0 : Statement .fLut6Red0 := of_none rfl

theorem fLut7Red1 : Statement .fLut7Red1 := of_none rfl

theorem fWriteRamRed (fill : RedFill) : Statement (.fWriteRamRed fill) := of_none rfl

theorem fWriteRamBlack (fill : BlackFill) : Statement (.fWriteRamBlack fill) := of_none rfl

theorem fUpdateCtrl2 : Statement .fUpdateCtrl2 := of_none rfl

theorem fActivate : Statement .fActivate := of_none rfl

theorem fDeepSleep : Statement .fDeepSleep := of_none rfl

theorem setl (line : Line) (level : Level) : Statement (.setl line level) := of_none rfl

theorem dly (ms : Nat) : Statement (.dly ms) := of_none rfl

theorem xfer (src : ByteSrc) : Statement (.xfer src) := of_none rfl

theorem waiti : Statement .waiti := of_none rfl

theorem setps (ps : RestState) : Statement (.setps ps) := of_none rfl

theorem endOp : Statement .endOp := of_none rfl

end Sys2Proof.Laws.WordShape
end

