-- ==== Sys2Proof/Laws/Prog.lean ====
section
/-! SUPPORT. The laws of the wire frames and of the transfer engine's byte sources: how many micro-ops a frame has, and that
every source it names lies in the plane. -/

namespace Sys2Proof.Machine
open Sys2Proof

/-- The data bytes of a frame are two micro-ops each. -/
theorem length_flatMap_dat (l : List ByteSrc) : (l.flatMap dat).length = 2 * l.length := by
  induction l with
  | nil => rfl
  | cons x l ih => simp [dat, ih]; omega

/-- A frame has two micro-ops for its command byte and two for each data byte. -/
@[simp] theorem length_frame (o : Byte) (l : List ByteSrc) : (frame o l).length = 2 + 2 * l.length := by
  rw [frame, List.length_append, length_flatMap_dat]; simp [cmd]

/-- A pass has `N` sources whatever the margin (44_frame_transfer.md R182, R184). -/
@[simp] theorem length_passSrcs (c : Cfg) (f : Nat → Nat → ByteSrc) : (c.passSrcs f).length = c.n := by
  simp [Cfg.passSrcs, Cfg.n, List.length_flatMap, Nat.mul_comm]

@[simp] theorem length_redFill (c : Cfg) (f : RedFill) : (c.redFill f).length = c.n := by
  cases f <;> simp [Cfg.redFill]

@[simp] theorem length_blackFill (c : Cfg) (f : BlackFill) : (c.blackFill f).length = c.n := by
  cases f <;> simp [Cfg.blackFill]

@[simp] theorem length_lutSrcs (t : BitVec 3) : (lutSrcs t).length = 15 := by simp [lutSrcs]

/-- A plane has at most `256 * 65536` bytes (10_state.md R21). -/
theorem n_le {c : Cfg} (h : c.wf = true) : c.n ≤ 256 * 65536 := by
  simp [Cfg.wf] at h
  obtain ⟨⟨⟨⟨⟨⟨⟨h1, h2⟩, h3⟩, h4⟩, h5⟩, h6⟩, h7⟩, h8⟩ := h
  have : c.bw ≤ 256 := by unfold Cfg.bw; omega
  exact Nat.mul_le_mul this h4

/-- Every source of a pass meets what every `(row, column)` of it meets. -/
theorem pass_wf {c : Cfg} {f : Nat → Nat → ByteSrc} (h : ∀ r < c.h, ∀ k < c.bw, (f r k).wf c = true) :
    ∀ x ∈ c.passSrcs f, x.wf c = true := by
  intro x hx
  simp [Cfg.passSrcs] at hx
  obtain ⟨r, hr, k, hk, rfl⟩ := hx
  exact h r hr k hk

/-- The index of a row shifted up lies in the plane (44_frame_transfer.md R195). -/
theorem index_lt {c : Cfg} {r k d : Nat} (hr : r < c.h) (hk : k < c.bw) : (r - d) * c.bw + k < c.n := by
  have h1 : (r - d + 1) * c.bw ≤ c.h * c.bw := Nat.mul_le_mul_right _ (by omega)
  have : (r - d + 1) * c.bw = (r - d) * c.bw + c.bw := by ring
  unfold Cfg.n
  rw [Nat.mul_comm c.bw c.h]
  omega

theorem redSrc_wf {c : Cfg} (full hl : Bool) {r k : Nat} (hr : r < c.h) (hk : k < c.bw) :
    (c.redSrc full hl r k).wf c = true := by
  unfold Cfg.redSrc; split
  · rfl
  · simpa [ByteSrc.wf] using index_lt hr hk

theorem blackSrc_wf {c : Cfg} (full : Bool) {r k : Nat} (hr : r < c.h) (hk : k < c.bw) :
    (c.blackSrc full r k).wf c = true := by
  unfold Cfg.blackSrc; split
  · rfl
  · simpa [ByteSrc.wf] using index_lt hr hk

theorem redFill_wf (c : Cfg) (f : RedFill) : ∀ x ∈ c.redFill f, x.wf c = true := by
  cases f with
  | picture full hl => exact pass_wf fun r hr k hk => redSrc_wf full hl hr hk
  | zeros => intro x hx; simp [Cfg.redFill] at hx; rw [hx.2]; rfl

theorem blackFill_wf (c : Cfg) (f : BlackFill) : ∀ x ∈ c.blackFill f, x.wf c = true := by
  cases f with
  | picture full => exact pass_wf fun r hr k hk => blackSrc_wf full hr hk
  | ones => intro x hx; simp [Cfg.blackFill] at hx; rw [hx.2]; rfl

/-- The micro-ops of a frame: a `SETL` of `DC` or a transfer of the command byte or of one of its data sources. -/
theorem mem_frame {o : Byte} {l : List ByteSrc} {u : Uop} (h : u ∈ frame o l) :
    (∃ level, u = .setl .dc level) ∨ u = .xfer (.imm o) ∨ ∃ src ∈ l, u = .xfer src := by
  simp only [frame, cmd, dat, List.mem_append, List.mem_cons, List.not_mem_nil, or_false, List.mem_flatMap] at h
  rcases h with (rfl | rfl) | ⟨src, hs, rfl | rfl⟩
  · exact .inl ⟨_, rfl⟩
  · exact .inr (.inl rfl)
  · exact .inl ⟨_, rfl⟩
  · exact .inr (.inr ⟨src, hs, rfl⟩)

/-- A pass in one list: the source of row `r`, column `k` stands at `r * BW + k` (44_frame_transfer.md R182, R184). -/
theorem passSrcs_eq (c : Cfg) (f : Nat → Nat → ByteSrc) :
    c.passSrcs f = (List.range (c.h * c.bw)).map fun a => f (a / c.bw) (a % c.bw) := by
  unfold Cfg.passSrcs
  induction c.h with
  | zero => simp
  | succ h ih =>
    rw [List.range_succ, List.flatMap_append, ih, Nat.succ_mul, List.range_add, List.map_append]
    congr 1
    simp only [List.flatMap_singleton, List.map_map]
    refine List.map_congr_left fun k hk => ?_
    have hk := List.mem_range.mp hk
    simp only [Function.comp]
    rw [Nat.mul_comm h, Nat.mul_add_div (by omega), Nat.div_eq_of_lt hk, Nat.mul_add_mod, Nat.mod_eq_of_lt hk, Nat.add_zero]

/-- The source a pass has for a row and a column. -/
theorem getElem?_passSrcs {c : Cfg} (f : Nat → Nat → ByteSrc) {r k : Nat} (hr : r < c.h) (hk : k < c.bw) :
    (c.passSrcs f)[r * c.bw + k]? = some (f r k) := by
  have hlt : r * c.bw + k < c.h * c.bw := by
    have := Nat.mul_le_mul_right c.bw (Nat.succ_le_of_lt hr)
    rw [Nat.succ_mul] at this; omega
  have hd : (r * c.bw + k) / c.bw = r := by rw [Nat.mul_comm, Nat.mul_add_div (by omega), Nat.div_eq_of_lt hk, Nat.add_zero]
  have hm : (r * c.bw + k) % c.bw = k := by rw [Nat.mul_comm, Nat.mul_add_mod, Nat.mod_eq_of_lt hk]
  rw [passSrcs_eq, List.getElem?_map, List.getElem?_range hlt, Option.map_some, hd, hm]

/-- The margin rows (44_frame_transfer.md R181). -/
theorem inMargin_iff (c : Cfg) (full : Bool) (r : Nat) :
    c.inMargin full r = true ↔ c.effMargin full ≠ 0 ∧ (r < c.marginHalf full ∨ c.bottomRow full ≤ r) := by
  simp [Cfg.inMargin]

end Sys2Proof.Machine
end

