-- ==== Sys2Proof/Laws/Step.lean ====
section
/-! SUPPORT. Everything a step can do, said once. -/

namespace Sys2Proof.Machine
open Sys2Proof

/-- With an empty schedule taking the turn changes nothing. -/
theorem turnTaken_of_empty {s : State} (h : s.sched = []) : s.turnTaken = s := by
  cases s; simp_all [State.turnTaken]

/-- Every next state a step can answer: a pass of the engine at rest, one micro-op of the engine, or one action of the
host. -/
theorem step_next_cases {s t : State} (h : step s = .next t) :
    s.cfg.wf = true ∧
    ((s.engineTurn ∧ s.run = false ∧ t = s.turnTaken) ∨
     (∃ p u, s.engineTurn ∧ s.run = true ∧ s.program = some p ∧ p[s.seq.toNat]? = some u ∧
        runUop u s.turnTaken = .next t) ∨
     (∃ act rest, s.sched = .host act :: rest ∧
        ((∃ q i, act = .writeReq q ∧ decode q = .ok i ∧ exec i s.turnTaken = .next t) ∨
         (∃ q e, act = .writeReq q ∧ decode q = .error e ∧ t = s.turnTaken.requestIllegal) ∨
         (act = .readReq ∧ t = s.turnTaken.hostSaw (.register 0)) ∨
         (∃ v, act = .writeStatus v ∧ t = s.turnTaken) ∨
         (act = .readStatus ∧ t = s.turnTaken.hostSaw (.register s.status)) ∨
         (∃ p a v, act = .writePlane p a v ∧ a < s.cfg.n ∧ t = s.turnTaken.hostWrite p a v) ∨
         (∃ p a, act = .readPlane p a ∧ a < s.cfg.n ∧ t = s.turnTaken.hostSaw (.plane (s.planeByte p a))) ∨
         (act = .blockReset ∧ t = s.turnTaken.blockReset)))) := by
  have eng : ∀ {s' : State}, s' = s.turnTaken → s.engineTurn → (match fetchEngine s' with
      | .instr i s'' => exec i s'' | .done o => o) = .next t →
      (s.engineTurn ∧ s.run = false ∧ t = s.turnTaken) ∨
     (∃ p u, s.engineTurn ∧ s.run = true ∧ s.program = some p ∧ p[s.seq.toNat]? = some u ∧
        runUop u s.turnTaken = .next t) := by
    intro s' hs he hh
    subst hs
    simp only [fetchEngine] at hh
    have hp : s.turnTaken.program = s.program := rfl
    have hq : s.turnTaken.seq = s.seq := rfl
    have hr : s.turnTaken.run = s.run := rfl
    simp only [hp, hq, hr] at hh
    cases hrun : s.run with
    | false => simp [hrun] at hh; left; exact ⟨he, rfl, hh.symm⟩
    | true =>
      simp only [hrun, if_true] at hh
      cases hpp : s.program with
      | none => simp [hpp] at hh
      | some p =>
        simp only [hpp] at hh
        cases hu : p[s.seq.toNat]? with
        | none => simp [hu] at hh
        | some u =>
          simp only [hu, exec_instr] at hh
          exact .inr ⟨p, u, he, rfl, rfl, hu, hh⟩
  simp only [step, fetch] at h
  cases hw : s.cfg.wf with
  | false => simp [hw] at h
  | true =>
    refine ⟨rfl, ?_⟩
    simp only [hw, if_true] at h
    cases hs : s.sched with
    | nil =>
      simp only [hs] at h
      rcases eng (turnTaken_of_empty hs).symm (.inl hs) h with h | h
      · exact .inl h
      · exact .inr (.inl h)
    | cons x rest =>
      cases x with
      | engine =>
        simp only [hs] at h
        rcases eng rfl (.inr ⟨rest, hs⟩) h with h | h
        · exact .inl h
        · exact .inr (.inl h)
      | host act =>
        simp only [hs] at h
        right; right
        refine ⟨act, rest, rfl, ?_⟩
        cases act with
        | writeReq q =>
          simp only [fetchHost] at h
          cases hd : decode q with
          | ok i => simp only [hd] at h; exact .inl ⟨q, i, rfl, hd, h⟩
          | error e => simp [hd] at h; exact .inr (.inl ⟨q, e, rfl, hd, h.symm⟩)
        | readReq => simp [fetchHost] at h; simp [← h]
        | writeStatus v => simp [fetchHost] at h; simp [← h]
        | readStatus => simp [fetchHost] at h; simp [← h]; rfl
        | writePlane p a v =>
          simp only [fetchHost, State.turnTaken_cfg] at h
          by_cases ha : a < s.cfg.n
          · simp [ha] at h; right; right; right; right; right; left; exact ⟨p, a, v, rfl, ha, h.symm⟩
          · simp [ha] at h
        | readPlane p a =>
          simp only [fetchHost, State.turnTaken_cfg] at h
          by_cases ha : a < s.cfg.n
          · simp [ha] at h; right; right; right; right; right; right; left; exact ⟨p, a, rfl, ha, h.symm⟩
          · simp [ha] at h
        | blockReset => simp [fetchHost] at h; simp [← h]

/-- A step is refused only for its configuration (00_scope.md R8). -/
theorem step_refused_iff (s : State) (r : Refusal) :
    step s = .refused r ↔ s.cfg.wf = false ∧ r = .illegalConfiguration := by
  have fetched : ∀ s' r, fetchEngine s' ≠ .done (.refused r) := by
    intro s' r; unfold fetchEngine; repeat' split
    all_goals simp
  have acted : ∀ act s' r, fetchHost act s' ≠ .done (.refused r) := by
    intro act s' r; cases act <;> simp only [fetchHost] <;> (try split) <;> simp
  cases hw : s.cfg.wf with
  | false => simp [step, fetch, hw, eq_comm]
  | true =>
    have : ∀ r, fetch s ≠ .done (.refused r) := by
      intro r; simp only [fetch, hw, if_true]; split
      · exact fetched _ r
      · exact fetched _ r
      · exact acted _ _ r
    simp only [step, reduceCtorEq, false_and, iff_false]
    split
    · exact exec_not_refused _ _ _
    · rename_i o h; intro ho; exact this r (ho ▸ h)

/-- A run of one more step than `k`, where the first answers a next state. -/
theorem run_succ {s t : State} {k : Nat} (h : step s = .next t) :
    Sys2Proof.core.run (k + 1) s = Sys2Proof.core.run k t := by
  have h : Sys2Proof.core.step s = .next t := h
  simp only [Host.Core.run, h]

end Sys2Proof.Machine
end

