-- ==== Sys2Proof/Tests/Slice0.lean ====
section
/-! SUPPORT. The model's own tests. Every expected result is a vector (V1 to V92) or a worked example of spec/95_test_vectors.md and
the rules, or worked out by hand from them. The last part holds a witness for every statement that has hypotheses. -/

namespace Sys2Proof.Tests
open Sys2Proof Sys2Proof.Machine

/-! The test configuration and the test states. -/

/-- Configuration A of 95_test_vectors.md: `W = 8, H = 8, M = 4`, defaults, `LUT[t][i] = 16*t + i`. -/
def cfgA : Cfg where
  w := 8
  h := 8
  m := 4
  opcSwreset := 0x12
  opcDriverOutput := 0x01
  opcDataEntry := 0x11
  opcRamXWindow := 0x44
  opcRamYWindow := 0x45
  opcBorder := 0x3C
  opcTempSensor := 0x18
  opcUpdateCtrl1 := 0x21
  opcRamXCounter := 0x4E
  opcRamYCounter := 0x4F
  opcWriteRamRed := 0x26
  opcWriteRamBlack := 0x24
  opcUpdateCtrl2 := 0x22
  opcActivate := 0x20
  opcDeepSleep := 0x10
  opcLut := #v[0xA0, 0xA1, 0xA2, 0xA3, 0xA4, 0xA5, 0xA6, 0xA7]
  docMode := 0x81
  demData := 0x82
  borderData := 0x83
  tempData := 0x84
  duc1Data := [0x85]
  duc2Flag := 0x86
  lut := #v[
    #v[0x00, 0x01, 0x02, 0x03, 0x04, 0x05, 0x06, 0x07, 0x08, 0x09, 0x0A, 0x0B, 0x0C, 0x0D, 0x0E],
    #v[0x10, 0x11, 0x12, 0x13, 0x14, 0x15, 0x16, 0x17, 0x18, 0x19, 0x1A, 0x1B, 0x1C, 0x1D, 0x1E],
    #v[0x20, 0x21, 0x22, 0x23, 0x24, 0x25, 0x26, 0x27, 0x28, 0x29, 0x2A, 0x2B, 0x2C, 0x2D, 0x2E],
    #v[0x30, 0x31, 0x32, 0x33, 0x34, 0x35, 0x36, 0x37, 0x38, 0x39, 0x3A, 0x3B, 0x3C, 0x3D, 0x3E],
    #v[0x40, 0x41, 0x42, 0x43, 0x44, 0x45, 0x46, 0x47, 0x48, 0x49, 0x4A, 0x4B, 0x4C, 0x4D, 0x4E],
    #v[0x50, 0x51, 0x52, 0x53, 0x54, 0x55, 0x56, 0x57, 0x58, 0x59, 0x5A, 0x5B, 0x5C, 0x5D, 0x5E],
    #v[0x60, 0x61, 0x62, 0x63, 0x64, 0x65, 0x66, 0x67, 0x68, 0x69, 0x6A, 0x6B, 0x6C, 0x6D, 0x6E],
    #v[0x70, 0x71, 0x72, 0x73, 0x74, 0x75, 0x76, 0x77, 0x78, 0x79, 0x7A, 0x7B, 0x7C, 0x7D, 0x7E]]
  busyIdleLevel := false
  csAssertLevel := false
  waitTimeout := none
  marginBotOpen := true
  redRowShifted := true

/-- At rest in `Idle`, `FB_BLACK = 10 21 32 43 54 65 76 87`, the panel idle at every sample, no transfer faulting. -/
def idle : State :=
  { State.reset with
    cfg := cfgA
    ps := .idle
    csL := true
    fbBlack := [(0, 0x10), (1, 0x21), (2, 0x32), (3, 0x43), (4, 0x54), (5, 0x65), (6, 0x76), (7, 0x87)]
    panel := { script := [], after := some false }
    bus := { script := [], after := some .ok } }

/-- The operation `q` in progress at micro-op `k`. -/
def running (q : Half) (k : Word) : State := { idle with opr := q, seq := k, run := true }

/-- The next state an outcome answers. -/
def nextOf : Out → Option State
  | .next t => some t
  | .fault _ => none
  | .refused _ => none

/-- The trace an outcome leaves. -/
def traceOf (o : Out) : Option (List Event) := (nextOf o).map fun t => t.trace

/-- `STATUS` after the host writes `q`. -/
def statusAfter (s : State) (q : Half) : Option Half :=
  (nextOf (step { s with sched := [.host (.writeReq q)] })).map fun t => t.status

/-! Well-formedness: an ill-formed term for each check. -/

theorem test_wf_accepts : cfgA.wf = true := by decide
/-- `1 <= W <= 2048`. -/
theorem test_wf_width :
    (({ cfgA with w := 0 } : Cfg).wf = false) ∧
    (({ cfgA with w := 2049 } : Cfg).wf = false) ∧
    (({ cfgA with w := 2048 } : Cfg).wf = true) := by
  decide
/-- `1 <= H <= 65536`. -/
theorem test_wf_height :
    (({ cfgA with h := 0, m := 0 } : Cfg).wf = false) ∧
    (({ cfgA with h := 65537 } : Cfg).wf = false) ∧
    (({ cfgA with h := 65536 } : Cfg).wf = true) := by
  decide
theorem test_wf_margin : ({ cfgA with m := 8 } : Cfg).wf = false := by decide
theorem test_wf_no_update_ctrl1_byte : ({ cfgA with duc1Data := [] } : Cfg).wf = false := by decide
theorem test_wf_program_too_long (l : List Byte) (h : 2 ^ 31 ≤ l.length) : ({ cfgA with duc1Data := l } : Cfg).wf = false := by
  have e : decide (60 + 2 * l.length ≤ 2 ^ 32) = false := decide_eq_false (by omega)
  simp only [Cfg.wf, e, Bool.and_false, Bool.false_and]
theorem test_wf_timeout_zero : ({ cfgA with waitTimeout := some 0 } : Cfg).wf = false := by decide
theorem test_wf_black_index : (Instr.xfer (.fbb 8)).wf cfgA = false ∧ (Instr.xfer (.fbb 7)).wf cfgA = true := by decide
theorem test_wf_complement_index : (Instr.xfer (.fbbn 8)).wf cfgA = false ∧ (Instr.xfer (.fbbn 7)).wf cfgA = true := by decide

/-! Decoding: a word written out from 30_encoding.md R70, R72 for every row of format `REQ16`: `OP`, `RSV`, `ARG`. -/

theorem test_decode_wait_idle : decode 0b0000_0000_00000000#16 = .ok .waitIdle := by decide
theorem test_decode_send_command : decode 0b0001_0000_00010010#16 = .ok (.sendCommand 0x12) := by decide
theorem test_decode_send_data : decode 0b0010_0000_10101011#16 = .ok (.sendData 0xAB) := by decide
theorem test_decode_reset : decode 0b0011_0000_00000000#16 = .ok .reset := by decide
theorem test_decode_initialize : decode 0b0100_0000_00000000#16 = .ok .initPanel := by decide
theorem test_decode_load_lut : decode 0b0101_0000_00000110#16 = .ok (.loadLut 6) := by decide
theorem test_decode_load_lut_bw : decode 0b0110_0000_00000000#16 = .ok .loadLutBw := by decide
theorem test_decode_load_lut_red : decode 0b0111_0000_00000000#16 = .ok .loadLutRed := by decide
theorem test_decode_display_frame : decode 0b1000_0000_0000_0_1_01#16 = .ok (.displayFrame .blackOnly true false) := by decide
theorem test_decode_display_frame_border : decode 0b1000_0000_0000_1_0_10#16 = .ok (.displayFrame .redOnly false true) := by
  decide
theorem test_decode_sleep : decode 0b1001_0000_00000000#16 = .ok .sleep := by decide
theorem test_decode_clear_to_white : decode 0b1010_0000_00000000#16 = .ok .clearToWhite := by decide
theorem test_decode_show : decode 0b1011_0000_0000000_1#16 = .ok (.showSession true) := by decide
theorem test_decode_reserved_low : decode 0b11_00000000000000#16 = .ok (.reservedOp 0) := by decide
theorem test_decode_reserved_high : decode 0b11_11111111111111#16 = .ok (.reservedOp 0x3FFF) := by decide
theorem test_decode_rejects_rsv : decode 0x0100 = .error .reservedBits ∧ decode 0xB800 = .error .reservedBits := by decide
theorem test_decode_rejects_arg :
    decode 0x3001 = .error .reservedArg ∧ decode 0x5008 = .error .reservedArg ∧ decode 0x8010 = .error .reservedArg ∧
      decode 0xB002 = .error .reservedArg := by decide
theorem test_decode_rejects_mode :
    decode 0x8003 = .error .noUpdateMode ∧ decode 0x8007 = .error .noUpdateMode ∧ decode 0x800B = .error .noUpdateMode ∧
      decode 0x800F = .error .noUpdateMode := by decide
theorem test_table_word : decodeTableWord 16 0x5003 = some (.loadLut 3) ∧ decodeTableWord 16 0x8003 = none ∧
    decodeTableWord 8 0x12 = none := by decide
/-- 30_encoding.md R74: a frame's length is told by the `DC` levels. -/
theorem test_wire_frames :
    decodeWire [(true, 9), (false, 1), (true, 2), (true, 3), (false, 4)] =
      ([9], [{ command := 1, data := [2, 3] }, { command := 4, data := [] }]) := by decide
/-- The placed word is the one the next step runs. -/
theorem test_with_fetch_word :
    (nextOf (step (State.reset.withFetchWord 16 0x5003))).map (fun t => (t.opr, t.run)) = some (0x5003, true) := by decide

/-! Requests and `STATUS`: V80 to V92. -/

/-- V80 to V88 and V90: the reset value, and `STATUS` after each refusal. -/
theorem test_status_refused :
    (State.reset.status = 0x0000) ∧
    (statusAfter idle 0xC000 = some 0x0082) ∧
    (statusAfter idle 0x0100 = some 0x0082) ∧
    (statusAfter idle 0x3001 = some 0x0082) ∧
    (statusAfter idle 0xB002 = some 0x0082) ∧
    (statusAfter { idle with ps := .sleeping } 0x8000 = some 0x0106) ∧
    (statusAfter { idle with ps := .sleeping } 0x0000 = some 0x0106) ∧
    (statusAfter { idle with ps := .sleeping } 0x8003 = some 0x0086) ∧
    (statusAfter { idle with ps := .fault, err := .busError } 0x6000 = some 0x0118) ∧
    (statusAfter (running 0xA000 0) 0xFFFF = some 0x0183) := by
  decide
/-- V89, V91, V92, and P4 step 3: `STATUS` at once after an acceptance, and inside a wait with `REJ` still 3. -/
theorem test_status_accepted :
    (statusAfter { idle with ps := .fault, err := .busError } 0x3000 = some 0x0009) ∧
    (statusAfter { idle with ps := .uninit } 0x8000 = some 0x0001) ∧
    (statusAfter { idle with ps := .sleeping } 0xB000 = some 0x0007) ∧
    (({ running 0xA000 18 with lastBusy := true, rej := .engineBusy } : State).status = 0x0185) := by
  decide

/-! Micro-ops: V1 to V9, V16 to V18. -/

/-- V1, and V2: a redundant `SETL` is not suppressed. -/
theorem test_setl :
    ((nextOf (exec (.setl .rst false) (running 0x3000 0))).map (fun t => (t.rstL, t.seq, t.trace)) =
    some (false, 1, [.L .rst false])) ∧
    (traceOf (exec (.setl .dc true) { running 0x2000 0 with dcL := true }) = some [.L .dc true]) := by
  decide
/-- V3. -/
theorem test_dly : (nextOf (exec (.dly 200) (running 0x3000 1))).map (fun t => (t.seq, t.trace)) = some (2, [.T 200]) := by
  decide
/-- V5, V6, and a byte written during the transfer read as its old value (20_memory.md R66). -/
theorem test_xfer_ok :
    (traceOf (exec (.xfer (.imm 0x27)) { running 0x4000 12 with cfg := { cfgA with csAssertLevel := true } }) =
      some [.L .cs true, .B 0x27, .L .cs false]) ∧
    (traceOf (exec (.xfer (.fbbn 3)) (running 0x8000 9)) =
    some [.L .cs false, .B 0xBC, .L .cs true]) ∧
    (traceOf (exec (.xfer (.fbb 3)) { running 0x8001 2 with
        raced := [(3, 0x99)], race := { script := [1], after := none } }) =
      some [.L .cs false, .B 0x99, .L .cs true]) := by
  decide
/-- V8, V9. -/
theorem test_xfer_fault :
    ((nextOf (exec (.xfer (.imm 0x01)) { running 0x9000 3 with bus := { script := [.fault], after := none } })).map
        (fun t => (t.err, t.ps, t.run, t.seq, t.trace)) =
      some (.busError, .fault, false, 3, [.L .cs false, .F, .L .cs true])) ∧
    ((nextOf (exec (.xfer (.imm 0x01)) { running 0x4000 17 with bus := { script := [.fault], after := none } })).map
        (fun t => (t.err, t.ps, t.run)) = some (.initError, .fault, false)) := by
  decide
/-- V10, the second busy sample of V16, and the samples 2^32 and 2^32 + 1 of a wait bounded by 2^32 + 1 (R123 by hand). -/
theorem test_waiti :
    ((nextOf (exec .waiti (running 0x0000 0))).map (fun t => (t.seq, t.polls, t.lastBusy, t.trace)) =
    some (1, 0, false, [.S false])) ∧
    ((nextOf (exec .waiti { running 0x0000 0 with
        cfg := { cfgA with waitTimeout := some 2 }, polls := 1, panel := { script := [true], after := none } })).map
        (fun t => (t.err, t.ps, t.seq, t.polls, t.run)) = some (.timeout, .fault, 0, 1, false)) ∧
    ((nextOf (exec .waiti { running 0x0000 0 with
        cfg := { cfgA with waitTimeout := some 4294967297 }, polls := 0xFFFFFFFF
        panel := { script := [true], after := none } })).map
        (fun t => (t.err, t.polls, t.run)) = some (.none, 0, true)) ∧
    ((nextOf (exec .waiti { running 0x0000 0 with
        cfg := { cfgA with waitTimeout := some 4294967297 }, polls := 0, pollWraps := 1
        panel := { script := [true], after := none } })).map
        (fun t => (t.err, t.run)) = some (.timeout, false)) := by
  decide
theorem test_setps : (nextOf (exec (.setps .sleeping) (running 0x9000 5))).map (fun t => (t.ps, t.seq, t.trace)) =
    some (.sleeping, 6, []) := by decide
theorem test_end : (nextOf (exec .endOp (running 0x9000 6))).map (fun t => (t.run, t.seq, t.ps)) = some (false, 6, .idle) := by
  decide
/-- The raced bytes, and byte 3 of a plane, once the host has written it. -/
def afterWrite (s : State) (pl : Plane) : Option (List Host.Cell × Byte) :=
  (nextOf (step { s with sched := [.host (.writePlane pl 3 0x55)] })).map fun t => (t.raced, t.planeByte pl 3)

/-- 20_memory.md R66: a write of `FB_BLACK` during `DISPLAY_FRAME` and `SHOW` is a race. -/
theorem test_host_write_records_race :
    afterWrite (running 0x8001 2) .black = some ([(3, 0x43)], 0x55) ∧
      afterWrite (running 0xB000 2) .black = some ([(3, 0x43)], 0x55) := by decide
/-- During another operation, at rest, and of `FB_RED` it is not. -/
theorem test_host_write_records_no_race :
    afterWrite (running 0xA000 2) .black = some ([], 0x55) ∧ afterWrite idle .black = some ([], 0x55) ∧
      afterWrite (running 0x8001 2) .red = some ([], 0x55) := by decide

/-! Wire frames: 30_encoding.md R75 with the operand bytes of configuration A (`H - 1 = 7`, `BW - 1 = 0`). -/

/-- The bytes a frame sends, with the `DC` level of each. -/
def sent (i : Instr) : Option (List (Level × Byte)) := (traceOf (exec i (running 0x8000 0))).map (wireBytes false)

theorem test_f_swreset :
    sent .fSwreset = some [(false, 0x12)] := by decide
theorem test_f_driver_output :
    sent .fDriverOutput = some [(false, 0x01), (true, 0x07), (true, 0x00), (true, 0x81)] := by decide
theorem test_f_data_entry :
    sent .fDataEntry = some [(false, 0x11), (true, 0x82)] := by decide
theorem test_f_ram_x_window :
    sent .fRamXWindow = some [(false, 0x44), (true, 0x00), (true, 0x00)] := by decide
theorem test_f_ram_y_window :
    sent .fRamYWindow = some [(false, 0x45), (true, 0x00), (true, 0x00), (true, 0x07), (true, 0x00)] := by decide
theorem test_f_border :
    sent .fBorder = some [(false, 0x3C), (true, 0x83)] := by decide
theorem test_f_temp_sensor :
    sent .fTempSensor = some [(false, 0x18), (true, 0x84)] := by decide
theorem test_f_update_ctrl1 :
    sent .fUpdateCtrl1 = some [(false, 0x21), (true, 0x85)] := by decide
theorem test_f_ram_x_counter :
    sent .fRamXCounter = some [(false, 0x4E), (true, 0x00)] := by decide
theorem test_f_ram_y_counter :
    sent .fRamYCounter = some [(false, 0x4F), (true, 0x07), (true, 0x00)] := by decide
theorem test_f_lut0 : sent .fLut0Vcom = some ((false, 0xA0) :: (List.range 15).map fun i => (true, BitVec.ofNat 8 (0 + i))) := by
  decide
theorem test_f_lut1 : sent .fLut1White = some ((false, 0xA1) :: (List.range 15).map fun i => (true, BitVec.ofNat 8 (16 + i))) := by
  decide
theorem test_f_lut2 : sent .fLut2Black = some ((false, 0xA2) :: (List.range 15).map fun i => (true, BitVec.ofNat 8 (32 + i))) := by
  decide
theorem test_f_lut3 : sent .fLut3Gray1 = some ((false, 0xA3) :: (List.range 15).map fun i => (true, BitVec.ofNat 8 (48 + i))) := by
  decide
theorem test_f_lut4 : sent .fLut4Gray2 = some ((false, 0xA4) :: (List.range 15).map fun i => (true, BitVec.ofNat 8 (64 + i))) := by
  decide
theorem test_f_lut5 : sent .fLut5Vcom1 = some ((false, 0xA5) :: (List.range 15).map fun i => (true, BitVec.ofNat 8 (80 + i))) := by
  decide
theorem test_f_lut6 : sent .fLut6Red0 = some ((false, 0xA6) :: (List.range 15).map fun i => (true, BitVec.ofNat 8 (96 + i))) := by
  decide
theorem test_f_lut7 : sent .fLut7Red1 = some ((false, 0xA7) :: (List.range 15).map fun i => (true, BitVec.ofNat 8 (112 + i))) := by
  decide
theorem test_f_write_ram_red :
    sent (.fWriteRamRed (.picture false true)) = some [(false, 0x26), (true, 0xFF), (true, 0xFF), (true, 0xEF), (true, 0xDE), (true, 0xCD), (true, 0xBC), (true, 0xAB), (true, 0xFF)] := by decide
theorem test_f_write_ram_red_zeros :
    sent (.fWriteRamRed .zeros) = some [(false, 0x26), (true, 0x00), (true, 0x00), (true, 0x00), (true, 0x00), (true, 0x00), (true, 0x00), (true, 0x00), (true, 0x00)] := by decide
theorem test_f_write_ram_black :
    sent (.fWriteRamBlack (.picture false)) = some [(false, 0x24), (true, 0xFF), (true, 0xFF), (true, 0x10), (true, 0x21), (true, 0x32), (true, 0x43), (true, 0x54), (true, 0xFF)] := by decide
theorem test_f_write_ram_black_ones :
    sent (.fWriteRamBlack .ones) = some [(false, 0x24), (true, 0xFF), (true, 0xFF), (true, 0xFF), (true, 0xFF), (true, 0xFF), (true, 0xFF), (true, 0xFF), (true, 0xFF)] := by decide
theorem test_f_update_ctrl2 :
    sent .fUpdateCtrl2 = some [(false, 0x22), (true, 0x86)] := by decide
theorem test_f_activate :
    sent .fActivate = some [(false, 0x20)] := by decide
theorem test_f_deep_sleep :
    sent .fDeepSleep = some [(false, 0x10), (true, 0x01)] := by decide

/-! The bitplane transfer engine: V30 to V51. -/

/-- The data bytes of the red and of the black pass. -/
def passes (c : Cfg) (full hl : Bool) : List Byte × List Byte :=
  let s : State := { idle with cfg := c }
  ((c.redFill (.picture full hl)).map s.wireByte, (c.blackFill (.picture full)).map s.wireByte)

/-- V30, V36, V38, V39. -/
theorem test_passes_margin_4 :
    (passes cfgA false false =
    ([0x00, 0x00, 0xEF, 0xDE, 0xCD, 0xBC, 0xAB, 0x00], [0xFF, 0xFF, 0x10, 0x21, 0x32, 0x43, 0x54, 0xFF])) ∧
    (passes cfgA true false =
    ([0xEF, 0xDE, 0xCD, 0xBC, 0xAB, 0x9A, 0x89, 0x78], [0x10, 0x21, 0x32, 0x43, 0x54, 0x65, 0x76, 0x87])) ∧
    (passes { cfgA with marginBotOpen := false } false true =
    ([0xFF, 0xFF, 0xEF, 0xDE, 0xCD, 0xBC, 0xFF, 0xFF], [0xFF, 0xFF, 0x10, 0x21, 0x32, 0x43, 0xFF, 0xFF])) ∧
    (passes { cfgA with redRowShifted := false } false true =
    ([0xFF, 0xFF, 0xCD, 0xBC, 0xAB, 0x9A, 0x89, 0xFF], [0xFF, 0xFF, 0x10, 0x21, 0x32, 0x43, 0x54, 0xFF])) := by
  decide
/-- V41, V42, V46, V47. -/
theorem test_passes_other_margins :
    (passes { cfgA with m := 1 } false true =
    ([0xEF, 0xDE, 0xCD, 0xBC, 0xAB, 0x9A, 0x89, 0x78], [0x10, 0x21, 0x32, 0x43, 0x54, 0x65, 0x76, 0x87])) ∧
    (passes { cfgA with m := 1, marginBotOpen := false } false true =
    ([0xEF, 0xDE, 0xCD, 0xBC, 0xAB, 0x9A, 0x89, 0xFF], [0x10, 0x21, 0x32, 0x43, 0x54, 0x65, 0x76, 0xFF])) ∧
    (passes { cfgA with m := 3, marginBotOpen := false } false true =
    ([0xFF, 0xEF, 0xDE, 0xCD, 0xBC, 0xAB, 0xFF, 0xFF], [0xFF, 0x10, 0x21, 0x32, 0x43, 0x54, 0xFF, 0xFF])) ∧
    (passes { cfgA with m := 7 } false true =
    ([0xFF, 0xFF, 0xFF, 0xEF, 0xDE, 0xFF, 0xFF, 0xFF], [0xFF, 0xFF, 0xFF, 0x10, 0x21, 0xFF, 0xFF, 0xFF])) := by
  decide
/-- V51: `W = 12`, two bytes a row. -/
theorem test_v51 :
    let s : State := { idle with
      cfg := { cfgA with w := 12, h := 4, m := 2, marginBotOpen := false }
      fbBlack := [(0, 0x01), (1, 0x20), (2, 0x03), (3, 0x40), (4, 0x05), (5, 0x60), (6, 0x07), (7, 0x80)] }
    (s.cfg.redFill (.picture false true)).map s.wireByte = [0xFF, 0xFF, 0xFE, 0xDF, 0xFC, 0xBF, 0xFF, 0xFF] ∧
      (s.cfg.blackFill (.picture false)).map s.wireByte = [0xFF, 0xFF, 0x01, 0x20, 0x03, 0x40, 0xFF, 0xFF] := by decide
/-- V22: the computed operand bytes at the corners. -/
theorem test_v22 : lo8 (1 - 1) = 0x00 ∧ hi8 (256 - 1) = 0x00 ∧ lo8 (256 - 1) = 0xFF ∧ hi8 (257 - 1) = 0x01 ∧
    lo8 (65536 - 1) = 0xFF ∧ hi8 (65536 - 1) = 0xFF ∧ lo8 (({ cfgA with w := 9 } : Cfg).bw - 1) = 0x01 ∧
    lo8 (({ cfgA with w := 2048 } : Cfg).bw - 1) = 0xFF := by decide
/-- V64: `CLEAR_TO_WHITE` with `N = 2`, the whole list of micro-ops but `END`. -/
theorem test_v64 : body { cfgA with h := 2, m := 0 } .clearToWhite = some (
    cmd 0x24 ++ dat (.imm 0xFF) ++ dat (.imm 0xFF) ++ cmd 0x26 ++ dat (.imm 0x00) ++ dat (.imm 0x00) ++
      cmd 0x22 ++ dat (.imm 0x86) ++ cmd 0x20 ++ [.waiti]) := by decide
/-- V70: `SHOW` begins with the reset pulse and a wait, and ends with deep sleep. -/
theorem test_v70 : (body cfgA (.showSession true)).map (fun b => (b.length + 1, b.take 6, b.drop 51)) =
    some (56, [.setl .rst false, .dly 200, .setl .rst true, .dly 200, .setps .uninit, .waiti],
      [.setl .dc true, .xfer (.imm 0x01), .dly 100, .setps .sleeping]) := by decide

/-! Witnesses: for each statement with hypotheses, concrete values that meet them all, clause by clause. -/

/-- A run of one `WAIT_IDLE` with the panel busy. -/
def waiting : State := { running 0x0000 0 with panel := { script := [], after := some true } }

/-- The same with `WAIT_TIMEOUT = 2`. -/
def bounded : State := { waiting with cfg := { cfgA with waitTimeout := some 2 } }

theorem test_witness_DecodeReadsBackEveryRequest : requestWord (.displayFrame .redOnly true true) = some 0x800E := by decide
theorem test_witness_EveryDecodedWordIsItsEncoding : decode 0x800E = .ok (.displayFrame .redOnly true true) := by decide
theorem test_witness_LegalWordsAreTheListedOnes :
    (∃ i, decode 0x10FF = .ok i ∧ isOperation i = true) ∧ ¬ ∃ i, decode 0x1100 = .ok i ∧ isOperation i = true :=
  ⟨⟨.sendCommand 0xFF, by decide, rfl⟩, fun ⟨_, h, _⟩ => by
    have e : decode 0x1100 = .error .reservedBits := by decide
    rw [e] at h
    cases h⟩
theorem test_witness_StepRunsTheRequestWritten :
    let s := { idle with sched := [.host (.writeReq 0x9000)] }
    s.cfg.wf = true ∧ s.sched = .host (.writeReq 0x9000) :: [] ∧ decode 0x9000 = .ok .sleep := by decide
theorem test_witness_StepRunsTheMicroOpAtSeq :
    (running 0x9000 4).cfg.wf = true ∧ (running 0x9000 4).engineTurn ∧ (running 0x9000 4).run = true ∧
      (running 0x9000 4).program = some (sleepSeq cfgA ++ [.endOp]) ∧
      (sleepSeq cfgA ++ [Uop.endOp])[(running 0x9000 4).seq.toNat]? = some (.dly 100) :=
  ⟨by decide, .inl rfl, rfl, by decide, by decide⟩
theorem test_witness_EngineTurnAtRestChangesNothing : idle.cfg.wf = true ∧ idle.engineTurn ∧ idle.run = false :=
  ⟨by decide, .inl rfl, rfl⟩
/-- Each way out of range at its boundary, and configuration A in range. -/
theorem test_witness_IllegalConfigurationIsRefused :
    (({ cfgA with w := 0 } : Cfg).w = 0 ∧ 2048 < ({ cfgA with w := 2049 } : Cfg).w ∧ ({ cfgA with h := 0 } : Cfg).h = 0 ∧
      65536 < ({ cfgA with h := 65537 } : Cfg).h ∧ ({ cfgA with m := 8 } : Cfg).h ≤ ({ cfgA with m := 8 } : Cfg).m ∧
      ({ cfgA with duc1Data := [] } : Cfg).duc1Data = [] ∧ ({ cfgA with waitTimeout := some 0 } : Cfg).waitTimeout = some 0) ∧
    (¬ (cfgA.w = 0 ∨ 2048 < cfgA.w ∨ cfgA.h = 0 ∨ 65536 < cfgA.h ∨ cfgA.h ≤ cfgA.m ∨ cfgA.duc1Data = [] ∨
      cfgA.waitTimeout = some 0) ∧ ¬ 2 ^ 32 < 60 + 2 * cfgA.duc1Data.length) := by decide
/-- The program of `INITIALIZE` one micro-op pair too long for `SEQ`. -/
theorem test_witness_IllegalConfigurationIsRefused_long : ∃ c : Cfg, 2 ^ 32 < 60 + 2 * c.duc1Data.length :=
  have long : ∀ n : Nat, 2 ^ 32 < 60 + 2 * n → ∃ c : Cfg, 2 ^ 32 < 60 + 2 * c.duc1Data.length := fun n h =>
    ⟨{ cfgA with duc1Data := List.replicate n 0 }, by rw [List.length_replicate]; exact h⟩
  long (2 ^ 31 - 29) (by omega)
theorem test_witness_IllegalWordSetsRejAlone :
    let s := { idle with sched := [.host (.writeReq 0x8003)] }
    s.cfg.wf = true ∧ s.sched = .host (.writeReq 0x8003) :: [] ∧ decode 0x8003 = .error .noUpdateMode := by decide
theorem test_witness_OperationsAreAccepted :
    (idle.run = false ∧ idle.ps = .idle) ∧ (State.reset.run = false ∧ State.reset.ps = .uninit) := by decide
theorem test_witness_PulseOperationsAreAcceptedInEveryState :
    ({ idle with ps := .fault } : State).run = false ∧ ({ idle with ps := .sleeping } : State).run = false := by decide
theorem test_witness_DataOperationsAreRefused :
    (({ idle with ps := .fault } : State).run = false ∧ ({ idle with ps := .fault } : State).ps = .fault) ∧
      (({ idle with ps := .sleeping } : State).run = false ∧ ({ idle with ps := .sleeping } : State).ps = .sleeping) := by decide
theorem test_witness_RequestsWhileRunningAreRefused :
    (running 0xA000 0).run = true ∧ isOperation .sleep = true ∧ ∃ x, Instr.reservedOp 0x3FFF = .reservedOp x :=
  ⟨rfl, rfl, _, rfl⟩
theorem test_witness_ReservedRangeIsRefused : idle.run = false := by decide
theorem test_witness_TransferSendsTheByteNamed :
    (ByteSrc.fbb 7).wf (running 0x8001 3).cfg = true ∧ (running 0x8001 3).raced = [] ∧ (running 0x8001 3).busAnswer = .ok := by
  decide
theorem test_witness_RacedTransferSendsSomeHeldByte :
    let s := { running 0x8001 3 with raced := [(3, 0x99)] }
    (ByteSrc.fbb 3).wf s.cfg = true ∧ s.busAnswer = .ok ∧ s.mayDeliver (.fbb 3) 0x99 ∧ s.mayDeliver (.fbb 3) 0x43 := by
  simp only [State.mayDeliver]; decide
theorem test_witness_TransferOutsideThePlaneStops : idle.cfg.n ≤ 8 := by decide
theorem test_witness_BusFaultAbortsTheOperation :
    let s := { running 0x9000 3 with bus := { script := [.fault], after := none } }
    (ByteSrc.imm 1).wf s.cfg = true ∧ s.busAnswer = .fault := by decide
theorem test_witness_WaitTakesOneSample_idle : (running 0x0000 0).busyLevel = (running 0x0000 0).cfg.busyIdleLevel := by decide
theorem test_witness_WaitTakesOneSample_busy :
    waiting.busyLevel = (!waiting.cfg.busyIdleLevel) ∧ 
      ∀ n, waiting.cfg.waitTimeout = some n → 2 ^ 32 * waiting.pollWraps + waiting.polls.toNat + 1 < n :=
  ⟨by decide, fun _ h => by cases h⟩
theorem test_witness_WaitTakesOneSample_timeout :
    let s := { bounded with polls := 1 }
    s.busyLevel = (!s.cfg.busyIdleLevel) ∧ s.cfg.waitTimeout = some 2 ∧ 2 ≤ 2 ^ 32 * s.pollWraps + s.polls.toNat + 1 := by decide
theorem test_witness_frames : (running 0x4000 0).run = true ∧ (running 0x4000 0).NoFault ∧ (running 0x4000 0).raced = [] :=
  ⟨rfl, ⟨fun _ h => (by cases h), rfl⟩, rfl⟩
theorem test_witness_FaultAtTheCommandByteEndsTheFrame :
    let s := { running 0x4000 0 with bus := { script := [.fault], after := none } }
    frameUops s.cfg .fBorder = some (frameBorder s.cfg) ∧ s.run = true ∧ s.busAnswer = .fault := by decide
/-- The frame of `SLEEP` stands at the start of its program. -/
theorem test_witness_FrameIsItsEngineSteps :
    let s := running 0x9000 0
    s.cfg.wf = true ∧ s.sched = [] ∧ s.run = true ∧ s.program = some (sleepSeq cfgA ++ [.endOp]) ∧
      frameUops s.cfg .fDeepSleep = some (frameDeepSleep cfgA) ∧
      (sleepSeq cfgA ++ [Uop.endOp]).drop s.seq.toNat = frameDeepSleep cfgA ++ [.dly 100, .setps .sleeping, .endOp] := by decide
theorem test_witness_DisplayFrameSendsTheStatedCounts :
    (∃ p, program cfgA (.displayFrame .both false true) = some p) ∧
      (∃ p, program cfgA (.displayFrame .redOnly false true) = some p) ∧
      (Cfg.atReset.w = 128 ∧ Cfg.atReset.h = 296) := ⟨⟨_, rfl⟩, ⟨_, rfl⟩, rfl, rfl⟩
theorem test_witness_PassesRoundTripWithoutAMargin : (true = true ∨ cfgA.m = 0) ∧ (false = true ∨ ({ cfgA with m := 0 } : Cfg).m = 0) :=
  ⟨.inl rfl, .inr rfl⟩
/-- One row for each of the three disjuncts: the last of the top margin, the first of the bottom, and row `VH + MH`. -/
theorem test_witness_MarginRowsAreConstant :
    (cfgA.m ≠ 0 ∧ 1 < cfgA.h ∧ 1 < cfgA.mh) ∧ (cfgA.m ≠ 0 ∧ 7 < cfgA.h ∧ cfgA.vh + cfgA.mh < 7) ∧
      (let c := { cfgA with marginBotOpen := false }
       c.m ≠ 0 ∧ 6 < c.h ∧ c.marginBotOpen = false ∧ 6 = c.vh + c.mh) := by decide
/-- The last pixel of the plane and the first. -/
theorem test_witness_PixelsArePackedRowMajor : 7 < cfgA.w ∧ 7 < cfgA.h ∧ 0 < cfgA.w ∧ 0 < cfgA.h := by decide
theorem test_witness_ProgramsStayInsideThePlane :
    ∃ p, prog cfgA 0x8001 = some p ∧ Uop.xfer (.fbb 4) ∈ p := ⟨_, rfl, by decide⟩
theorem test_witness_EveryTransferFollowsItsDataCommandLine :
    ∃ p, prog cfgA 0x9000 = some p ∧ p[3]? = some (.xfer (.imm 1)) := ⟨_, rfl, by decide⟩
theorem test_witness_OperandBytesAreAssembledAsStated : cfgA.wf = true ∧ Cfg.atReset.w = 128 ∧ Cfg.atReset.h = 296 := ⟨by decide, rfl, rfl⟩
theorem test_witness_OperationRunsToItsEnd :
    let s := { idle with ps := .fault, sched := [.host (.writeReq 0xB001)] }
    s.cfg.wf = true ∧ s.sched = [.host (.writeReq 0xB001)] ∧ s.run = false ∧ requestWord (.showSession true) = some 0xB001 ∧
      (∃ p, program s.cfg (.showSession true) = some p) ∧ permitted (.showSession true) s.ps = true ∧ s.NoFault ∧ s.PanelIdle :=
  ⟨by decide, rfl, rfl, by decide, ⟨_, rfl⟩, rfl, ⟨fun _ h => (by cases h), rfl⟩, ⟨fun _ h => (by cases h), rfl⟩⟩
theorem test_witness_WaitAdmitsAnyNumberOfBusySamples :
    let s := { waiting with panel := { script := [true, true, false], after := none } }
    s.cfg.wf = true ∧ s.sched = [] ∧ s.run = true ∧ s.currentUop = some .waiti ∧
      (∀ n, s.cfg.waitTimeout = some n → 2 ^ 32 * s.pollWraps + s.polls.toNat + 2 < n) ∧
      s.panel.script = List.replicate 2 (!s.cfg.busyIdleLevel) ++ s.cfg.busyIdleLevel :: [] :=
  ⟨by decide, rfl, rfl, by decide, fun _ h => (by cases h), by decide⟩
theorem test_witness_StuckBusyLineHangsForEver :
    waiting.cfg.wf = true ∧ waiting.sched = [] ∧ waiting.run = true ∧ waiting.currentUop = some .waiti ∧
      waiting.cfg.waitTimeout = none ∧ waiting.PanelStuck :=
  ⟨by decide, rfl, rfl, by decide, rfl, fun _ h => (by cases h), rfl⟩
theorem test_witness_BoundedWaitTimesOut :
    bounded.cfg.wf = true ∧ bounded.sched = [] ∧ bounded.run = true ∧ bounded.currentUop = some .waiti ∧
      bounded.cfg.waitTimeout = some 2 ∧ bounded.polls = 0 ∧ bounded.pollWraps = 0 ∧ bounded.PanelStuck :=
  ⟨by decide, rfl, rfl, by decide, rfl, rfl, rfl, fun _ h => (by cases h), rfl⟩

theorem waiting_program : waiting.program = some [.waiti, .endOp] := by decide

theorem test_plane_in_canonical_form : Memory.inPlane cfgA idle.fbBlack := ⟨by decide, by decide⟩

/-- The invariant holds in a state with an operation in progress. -/
theorem test_witness_Inv : Inv waiting where
  config := by decide
  black := test_plane_in_canonical_form
  red := ⟨List.Pairwise.nil, fun _ h => by cases h⟩
  released := rfl
  running := fun _ => ⟨_, waiting_program, by decide⟩
  waiting := fun h => by cases h
  aborted := fun h => absurd rfl h
  faulted := fun h => by cases h
  bounded := fun _ h => by cases h

theorem test_witness_EveryStepKeepsTheInvariant : Inv waiting ∧ ∃ t, step waiting = .next t :=
  ⟨test_witness_Inv, _, rfl⟩
theorem test_witness_EngineIsNeverStopped : Inv waiting ∧ waiting.engineTurn := ⟨test_witness_Inv, .inl rfl⟩
theorem test_witness_NoInstructionWritesMemory :
    (∃ t, exec (.fWriteRamBlack .ones) (running 0xA000 0) = .next t) ∧ ∃ t, exec .clearToWhite idle = .next t :=
  ⟨⟨_, rfl⟩, _, rfl⟩
theorem test_witness_EngineInstructionsKeepTheRest :
    isOperation (.setl .rst false) = false ∧ (∀ x, Instr.setl .rst false ≠ .reservedOp x) ∧
      ∃ t, exec (.setl .rst false) (running 0x3000 0) = .next t := ⟨rfl, fun _ h => (by cases h), _, rfl⟩
/-- `PS` changed by `SETPS`, by an abort and by a block reset. -/
theorem test_witness_PanelStateIsWrittenOnlyBySetpsAndAbort :
    (∃ t, step (running 0x9000 5) = .next t ∧ t.ps ≠ (running 0x9000 5).ps) ∧
      (∃ t, step { running 0x9000 3 with bus := { script := [.fault], after := none } } = .next t ∧ t.ps ≠ .idle) ∧
      ∃ t, step { idle with sched := [.host .blockReset] } = .next t ∧ t.ps ≠ .idle :=
  ⟨⟨_, rfl, by decide⟩, ⟨_, rfl, by decide⟩, ⟨_, rfl, by decide⟩⟩
/-- `ERR` changed by an acceptance, by an abort and by a block reset. -/
theorem test_witness_ErrIsWrittenOnlyByAcceptanceAbortAndReset :
    (∃ t, step { idle with ps := .fault, err := .timeout, sched := [.host (.writeReq 0x3000)] } = .next t ∧ t.err ≠ .timeout) ∧
      (∃ t, step { running 0x9000 3 with bus := { script := [.fault], after := none } } = .next t ∧ t.err ≠ .none) ∧
      ∃ t, step { idle with ps := .fault, err := .timeout, sched := [.host .blockReset] } = .next t ∧ t.err ≠ .timeout :=
  ⟨⟨_, rfl, by decide⟩, ⟨_, rfl, by decide⟩, ⟨_, rfl, by decide⟩⟩
/-- An engine step that advances `SEQ`, and one inside a wait that does not. -/
theorem test_witness_SeqOnlyAdvancesByOne :
    (∃ t, step (running 0x9000 4) = .next t ∧ (running 0x9000 4).engineTurn ∧ t.seq = 5) ∧
      ∃ t, step waiting = .next t ∧ waiting.engineTurn ∧ t.seq = 0 :=
  ⟨⟨_, rfl, .inl rfl, by decide⟩, ⟨_, rfl, .inl rfl, by decide⟩⟩
theorem test_witness_OnlyTheEngineEmitsEvents :
    (∃ t, step (running 0x9000 4) = .next t ∧ t.trace = [.T 100]) ∧
      ∃ t, step { idle with sched := [.host .readStatus] } = .next t ∧
        ¬ (State.engineTurn { idle with sched := [.host .readStatus] } ∧ idle.run = true) :=
  ⟨⟨_, rfl, by decide⟩, ⟨_, rfl, fun h => by cases h.2⟩⟩
theorem test_witness_RedPlaneIsNeverRead :
    (∃ t, step (running 0x8002 3) = .next t) ∧ (running 0x8002 3).engineTurn ∧
      ∃ t, Sys2Proof.core.run 2 { running 0x8002 3 with sched := [.host (.readPlane .red 0)] } = .next t :=
  ⟨⟨_, rfl⟩, .inl rfl, _, rfl⟩
/-- The first byte of the plane, the last, and the first index past it. -/
theorem test_witness_HostWriteChangesOneByte :
    let s := { waiting with sched := [.host (.writePlane .black 7 0xFF)] }
    Inv s ∧ s.sched = .host (.writePlane .black 7 0xFF) :: [] ∧ 7 < (s.cfg.w + 7) / 8 * s.cfg.h ∧
      0 < (s.cfg.w + 7) / 8 * s.cfg.h ∧ (s.cfg.w + 7) / 8 * s.cfg.h ≤ 8 ∧
      ¬ (s.opr.extractLsb' 12 4 = 0x8#4 ∨ s.opr.extractLsb' 12 4 = 0xB#4) :=
  ⟨⟨test_witness_Inv.config, test_witness_Inv.black, test_witness_Inv.red, rfl, test_witness_Inv.running,
    test_witness_Inv.waiting, test_witness_Inv.aborted, test_witness_Inv.faulted, test_witness_Inv.bounded⟩,
    rfl, by decide, by decide, by decide, by decide⟩
/-- At the start of `SHOW`, a transfer in progress. -/
theorem test_witness_HostWriteChangesOneByte_races :
    let s := { running 0xB001 0 with sched := [.host (.writePlane .black 0 0x99)] }
    Inv s ∧ s.sched = .host (.writePlane .black 0 0x99) :: [] ∧ 0 < (s.cfg.w + 7) / 8 * s.cfg.h ∧
      s.run = true ∧ (s.opr.extractLsb' 12 4 = 0x8#4 ∨ s.opr.extractLsb' 12 4 = 0xB#4) :=
  ⟨{  config := by decide
      black := test_plane_in_canonical_form
      red := ⟨List.Pairwise.nil, fun _ h => by cases h⟩
      released := rfl
      running := fun _ => ⟨showSeq cfgA true ++ [.endOp], by decide, by decide⟩
      waiting := fun h => by cases h
      aborted := fun h => absurd rfl h
      faulted := fun h => by cases h
      bounded := fun _ h => by cases h }, rfl, by decide, rfl, by decide⟩
/-- The last byte of the plane, and the first index past it. -/
theorem test_witness_HostReadReturnsTheByte :
    idle.cfg.wf = true ∧
      (({ idle with sched := [.host (.readPlane .black 7)] } : State).sched = .host (.readPlane .black 7) :: [] ∧
        7 < (idle.cfg.w + 7) / 8 * idle.cfg.h) ∧
      (({ idle with sched := [.host (.readPlane .red 8)] } : State).sched = .host (.readPlane .red 8) :: [] ∧
        (idle.cfg.w + 7) / 8 * idle.cfg.h ≤ 8) := by decide
theorem test_witness_RegisterReadsHaveNoSideEffect :
    idle.cfg.wf = true ∧ ({ idle with sched := [.host .readStatus] } : State).sched = .host .readStatus :: [] ∧
      ({ idle with sched := [.host .readReq] } : State).sched = .host .readReq :: [] ∧
      ({ idle with sched := [.host (.writeStatus 0xFFFF)] } : State).sched = .host (.writeStatus 0xFFFF) :: [] := by decide
theorem test_witness_ResetLeavesTheStatedValues :
    let s := { running 0x8000 20 with sched := [.host .blockReset] }
    s.cfg.wf = true ∧ s.sched = .host .blockReset :: [] := by decide

end Sys2Proof.Tests
end

section
/-! The output lines driven by `SETL` (40_bus_transport.md R100). -/

namespace Sys2Proof.Machine
open Sys2Proof

/-- `SETL` has no precondition (R106) and no failure: it drives its line, and `SEQ` advances. -/
theorem exec_setl (line : Line) (level : Level) (s : State) :
    exec (.setl line level) s = .next (s.drive line level).advance :=
  exec_instr (.setl line level) s

/-- Driving `RST` writes `RST_L` and appends the event, whatever the line's level was. -/
theorem State.drive_rst (s : State) (level : Level) :
    s.drive .rst level = { s with rstL := level, trace := s.trace ++ [.L .rst level] } := rfl

/-- Driving `DC` writes `DC_L` and appends the event, whatever the line's level was. -/
theorem State.drive_dc (s : State) (level : Level) :
    s.drive .dc level = { s with dcL := level, trace := s.trace ++ [.L .dc level] } := rfl

/-- Driving `CS` writes `CS_L` and appends the event, whatever the line's level was. -/
theorem State.drive_cs (s : State) (level : Level) :
    s.drive .cs level = { s with csL := level, trace := s.trace ++ [.L .cs level] } := rfl

/-- Settles O17: the effect of `SETL` with the driven state of each of the three lines written out. -/
theorem setlDrivesItsLine : Obligations.SetlDrivesItsLine := by
  intro s level
  refine ⟨?rst, ?dc, ?cs⟩
  case rst => rw [exec_setl, State.drive_rst, State.advance]
  case dc => rw [exec_setl, State.drive_dc, State.advance]
  case cs => rw [exec_setl, State.drive_cs, State.advance]

end Sys2Proof.Machine
end

section
/-! The noninterference of the red plane (44_frame_transfer.md R192): replacing `FB_RED` and the record of the host's reads commutes
with everything the engine does. -/

namespace Sys2Proof.Machine
open Sys2Proof

/-- The state with `FB_RED` and the record of the host's reads replaced. -/
def State.withRed (s : State) (red : Memory) (reads : List HostRead) : State := { s with fbRed := red, hostReads := reads }

/-- An outcome with its next state changed by `f`, and a stop as it is. -/
def Out.mapNext (f : State → State) : Out → Out
  | .next s => .next (f s)
  | .fault r => .fault r
  | .refused r => .refused r

/-- What the step answers that has fetched this. -/
def Fetched.run : Fetched → Out
  | .instr i s => exec i s
  | .done o => o

/-- A step is what it has fetched, run. -/
theorem step_eq_run (s : State) : step s = (fetch s).run := by
  unfold step; cases fetch s <;> rfl

/-- The engine's turn: its fetch, with the turn taken. -/
theorem step_of_engineTurn {s : State} (hw : s.cfg.wf = true) (he : s.engineTurn) :
    step s = (fetchEngine s.turnTaken).run := by
  rw [step_eq_run, fetch, if_pos hw]
  obtain hs | ⟨rest, hs⟩ := he
  · simp only [hs]; rw [turnTaken_of_empty hs]
  · simp only [hs]

/-- The host's turn: its action, with the turn taken. -/
theorem step_of_host {s : State} {act : HostAct} {rest : List Turn} (hw : s.cfg.wf = true) (hs : s.sched = .host act :: rest) :
    step s = (fetchHost act s.turnTaken).run := by
  rw [step_eq_run, fetch, if_pos hw]
  simp only [hs]

/-- A host write of a plane answers a next state inside the plane and nowhere else. -/
theorem fetchHost_writePlane_run_iff {s t : State} {p : Plane} {a : Nat} {v : Byte} :
    (fetchHost (.writePlane p a v) s).run = .next t ↔ a < s.cfg.n ∧ t = s.hostWrite p a v := by
  by_cases ha : a < s.cfg.n <;> simp [fetchHost, Fetched.run, ha, eq_comm]

/-- A host read of a plane answers a next state inside the plane and nowhere else. -/
theorem fetchHost_readPlane_run_iff {s t : State} {p : Plane} {a : Nat} :
    (fetchHost (.readPlane p a) s).run = .next t ↔ a < s.cfg.n ∧ t = s.hostSaw (.plane (s.planeByte p a)) := by
  by_cases ha : a < s.cfg.n <;> simp [fetchHost, Fetched.run, ha, eq_comm]

/-- A step that answers a next state has a configuration in its ranges, and is the engine's or the host's. -/
theorem step_next_turn {s t : State} (h : step s = .next t) :
    s.cfg.wf = true ∧ (s.engineTurn ∨ ∃ act rest, s.sched = .host act :: rest) := by
  obtain ⟨hw, ⟨he, -⟩ | ⟨_, _, he, -⟩ | ⟨act, rest, hs, -⟩⟩ := step_next_cases h
  · exact ⟨hw, .inl he⟩
  · exact ⟨hw, .inl he⟩
  · exact ⟨hw, .inr ⟨act, rest, hs⟩⟩

/-- A run of one more step that answers a next state: its first step does, and the rest of the run goes on from there. -/
theorem run_succ_next {s t : State} {k : Nat} (h : Sys2Proof.core.run (k + 1) s = .next t) :
    ∃ u, step s = .next u ∧ Sys2Proof.core.run k u = .next t := by
  cases hs : step s with
  | next u => exact ⟨u, rfl, (run_succ hs).symm.trans h⟩
  | fault r => simp [Host.Core.run, show Sys2Proof.core.step s = .fault r from hs] at h
  | refused r => simp [Host.Core.run, show Sys2Proof.core.step s = .refused r from hs] at h

/-- The rows of the opcode table: the twelve operations, the reserved range, the wire frames and the micro-ops. -/
theorem instr_kind (c : Cfg) (i : Instr) :
    isOperation i = true ∨ (∃ x, i = .reservedOp x) ∨ (∃ us, frameUops c i = some us) ∨ ∃ u : Uop, i = u.instr := by
  cases i with
  | waitIdle | sendCommand _ | sendData _ | reset | initPanel | loadLut _ | loadLutBw | loadLutRed | displayFrame _ _ _
  | sleep | clearToWhite | showSession _ => exact .inl rfl
  | reservedOp x => exact .inr (.inl ⟨x, rfl⟩)
  | fSwreset | fDriverOutput | fDataEntry | fRamXWindow | fRamYWindow | fBorder | fTempSensor | fUpdateCtrl1
  | fRamXCounter | fRamYCounter | fLut0Vcom | fLut1White | fLut2Black | fLut3Gray1 | fLut4Gray2 | fLut5Vcom1 | fLut6Red0
  | fLut7Red1 | fWriteRamRed _ | fWriteRamBlack _ | fUpdateCtrl2 | fActivate | fDeepSleep =>
    exact .inr (.inr (.inl ⟨_, rfl⟩))
  | setl line level => exact .inr (.inr (.inr ⟨.setl line level, rfl⟩))
  | dly ms => exact .inr (.inr (.inr ⟨.dly ms, rfl⟩))
  | xfer src => exact .inr (.inr (.inr ⟨.xfer src, rfl⟩))
  | waiti => exact .inr (.inr (.inr ⟨.waiti, rfl⟩))
  | setps ps => exact .inr (.inr (.inr ⟨.setps ps, rfl⟩))
  | endOp => exact .inr (.inr (.inr ⟨.endOp, rfl⟩))

section
variable (s : State) (red : Memory) (reads : List HostRead)

@[simp] theorem State.withRed_cfg : (s.withRed red reads).cfg = s.cfg := rfl
@[simp] theorem State.withRed_run : (s.withRed red reads).run = s.run := rfl
@[simp] theorem State.withRed_ps : (s.withRed red reads).ps = s.ps := rfl
@[simp] theorem State.withRed_seq : (s.withRed red reads).seq = s.seq := rfl
@[simp] theorem State.withRed_program : (s.withRed red reads).program = s.program := rfl
@[simp] theorem State.withRed_busAnswer : (s.withRed red reads).busAnswer = s.busAnswer := rfl
@[simp] theorem State.withRed_busyLevel : (s.withRed red reads).busyLevel = s.busyLevel := rfl
@[simp] theorem State.withRed_timesOut : (s.withRed red reads).timesOut = s.timesOut := rfl
@[simp] theorem State.withRed_srcByte (src : ByteSrc) : (s.withRed red reads).srcByte src = s.srcByte src := by
  cases src <;> rfl

/-- Reading a source takes an answer of the race, never a byte of the red plane. -/
theorem State.readSrc_withRed (src : ByteSrc) : (s.withRed red reads).readSrc src = (s.readSrc src).withRed red reads := by
  have black : ∀ a, (s.withRed red reads).readBlack a = (s.readBlack a).withRed red reads := fun a =>
    (apply_ite (State.withRed · red reads) (s.oldBytes a = []) s s.askedRace).symm
  cases src with
  | imm b => rfl
  | fbb a => exact black a
  | fbbn a => exact black a
  | lutb t i => rfl

theorem State.sendByte_withRed (src : ByteSrc) : (s.withRed red reads).sendByte src = (s.sendByte src).withRed red reads := by
  simp only [State.sendByte, State.readSrc_withRed, State.withRed_srcByte]
  rfl

theorem State.waitBusy_withRed : (s.withRed red reads).waitBusy = s.waitBusy.withRed red reads := by
  cases h : s.timesOut <;> simp only [State.waitBusy, State.withRed_timesOut, h] <;> rfl

theorem State.request_withRed (i : Instr) : (s.withRed red reads).request i = (s.request i).withRed red reads := by
  cases hr : s.run with
  | true => simp only [State.request, State.withRed_run, hr]; rfl
  | false =>
    cases hp : permitted i s.ps <;>
      simp only [State.request, State.withRed_run, State.withRed_ps, hr, hp] <;> rfl

theorem State.requestIllegal_withRed : (s.withRed red reads).requestIllegal = s.requestIllegal.withRed red reads :=
  (apply_ite (State.withRed · red reads) (s.run = true) (s.refuse .engineBusy) (s.refuse .illegalRequest)).symm

theorem State.recordRace_withRed (a : Nat) : (s.withRed red reads).recordRace a = (s.recordRace a).withRed red reads :=
  (apply_ite (State.withRed · red reads) (s.transferring = true)
    { s with raced := (a, s.planeByte .black a) :: s.raced } s).symm

/-- A host write changes the red plane at most. -/
theorem State.hostWrite_withRed (p : Plane) (a : Nat) (v : Byte) :
    ∃ red', (s.withRed red reads).hostWrite p a v = (s.hostWrite p a v).withRed red' reads := by
  cases p with
  | black => exact ⟨red, congrArg (State.storePlane · .black a v) (State.recordRace_withRed s red reads a)⟩
  | red => exact ⟨red.write a v, rfl⟩

/-- No micro-op reads the red plane or the record of the host's reads, and none writes them. -/
theorem runUop_withRed (u : Uop) :
    runUop u (s.withRed red reads) = (runUop u s).mapNext (State.withRed · red reads) := by
  cases u with
  | setl line level => cases line <;> rfl
  | dly ms => rfl
  | xfer src =>
    cases hw : src.wf s.cfg with
    | false => simp only [runUop, opXfer, State.withRed_cfg, hw]; rfl
    | true =>
      cases hb : s.busAnswer <;> simp only [runUop, opXfer, State.withRed_cfg, State.withRed_busAnswer, hw, hb, if_true]
      case ok => exact congrArg Host.Outcome.next (State.sendByte_withRed s.askedBus red reads src)
      case fault => rfl
  | waiti =>
    by_cases hb : s.busyLevel = s.cfg.busyIdleLevel <;>
      simp only [runUop, opWaiti, State.withRed_cfg, State.withRed_busyLevel, hb, if_true, if_false]
    case pos => rfl
    case neg => exact congrArg Host.Outcome.next (State.waitBusy_withRed s.sampled red reads)
  | setps ps => rfl
  | endOp => rfl

theorem runUops_withRed (us : List Uop) :
    runUops us (s.withRed red reads) = (runUops us s).mapNext (State.withRed · red reads) := by
  induction us generalizing s with
  | nil => rfl
  | cons u us ih =>
    simp only [runUops, State.withRed_run, runUop_withRed]
    split
    · cases runUop u s with
      | next s' => exact ih s'
      | fault r => rfl
      | refused r => rfl
    · rfl

/-- No instruction reads the red plane or the record of the host's reads, and none writes them. -/
theorem exec_withRed (i : Instr) :
    exec i (s.withRed red reads) = Out.mapNext (State.withRed · red reads) (exec i s) := by
  obtain hop | ⟨x, rfl⟩ | ⟨us, hus⟩ | ⟨u, rfl⟩ := instr_kind s.cfg i
  · rw [exec_operation hop, exec_operation hop, State.request_withRed]; rfl
  · exact congrArg _ (State.requestIllegal_withRed s red reads)
  · rw [(exec_frame (s := s.withRed red reads) hus).1, (exec_frame hus).1, runUops_withRed]
  · rw [exec_instr, exec_instr, runUop_withRed]

/-- Nor does the engine's turn. -/
theorem fetchEngine_run_withRed :
    (fetchEngine (s.withRed red reads)).run = (fetchEngine s).run.mapNext (State.withRed · red reads) := by
  cases hr : s.run with
  | false => simp only [fetchEngine, State.withRed_run, hr]; rfl
  | true =>
    simp only [fetchEngine, State.withRed_run, State.withRed_program, State.withRed_seq, hr, if_true]
    cases s.program with
    | none => rfl
    | some p =>
      dsimp only
      cases p[s.seq.toNat]? with
      | none => rfl
      | some u => exact exec_withRed s red reads u.instr

end

section
variable {s t : State}

/-- A step on the engine's turn leaves the replaced `FB_RED` and the replaced record as they are. -/
theorem step_engine_withRed (red : Memory) (reads : List HostRead) (he : s.engineTurn) (h : step s = .next t) :
    step (s.withRed red reads) = .next (t.withRed red reads) := by
  obtain ⟨hw, -⟩ := step_next_turn h
  rw [step_of_engineTurn hw he] at h
  rw [step_of_engineTurn (s := s.withRed red reads) hw he]
  exact (fetchEngine_run_withRed s.turnTaken red reads).trans (congrArg (Out.mapNext _) h)

/-- A host action changes the red plane and the record in its own way, and answers the same but for those two. -/
theorem fetchHost_withRed (red : Memory) (reads : List HostRead) {act : HostAct} (h : (fetchHost act s).run = .next t) :
    ∃ red' reads', (fetchHost act (s.withRed red reads)).run = .next (t.withRed red' reads') := by
  cases act with
  | writeReq q =>
    refine ⟨red, reads, ?_⟩
    simp only [fetchHost] at h ⊢
    cases hd : decode q with
    | ok i =>
      simp only [hd, Fetched.run] at h ⊢
      rw [exec_withRed, h]; rfl
    | error e =>
      simp only [hd, Fetched.run, Host.Outcome.next.injEq] at h ⊢
      rw [State.requestIllegal_withRed, h]
  | readReq => cases h; exact ⟨red, reads ++ [.register 0], rfl⟩
  | writeStatus v => cases h; exact ⟨red, reads, rfl⟩
  | readStatus => cases h; exact ⟨red, reads ++ [.register s.status], rfl⟩
  | writePlane p a v =>
    obtain ⟨ha, rfl⟩ := fetchHost_writePlane_run_iff.mp h
    obtain ⟨red', hw⟩ := State.hostWrite_withRed s red reads p a v
    exact ⟨red', reads, fetchHost_writePlane_run_iff.mpr ⟨ha, hw.symm⟩⟩
  | readPlane p a =>
    obtain ⟨ha, rfl⟩ := fetchHost_readPlane_run_iff.mp h
    exact ⟨red, reads ++ [.plane ((s.withRed red reads).planeByte p a)], fetchHost_readPlane_run_iff.mpr ⟨ha, rfl⟩⟩
  | blockReset => cases h; exact ⟨[], reads, rfl⟩

/-- A step of either agent answers the same but for the red plane and the record. -/
theorem step_withRed (red : Memory) (reads : List HostRead) (h : step s = .next t) :
    ∃ red' reads', step (s.withRed red reads) = .next (t.withRed red' reads') := by
  obtain ⟨hw, he | ⟨act, rest, hs⟩⟩ := step_next_turn h
  · exact ⟨red, reads, step_engine_withRed red reads he h⟩
  · rw [step_of_host hw hs] at h
    rw [step_of_host (s := s.withRed red reads) hw hs]
    exact fetchHost_withRed red reads h

/-- So does a run, where each step starts from what the step before made of the two. -/
theorem run_withRed (red : Memory) (reads : List HostRead) {k : Nat} (h : Sys2Proof.core.run k s = .next t) :
    ∃ red' reads', Sys2Proof.core.run k (s.withRed red reads) = .next (t.withRed red' reads') := by
  induction k generalizing s red reads with
  | zero => cases h; exact ⟨red, reads, rfl⟩
  | succ k ih =>
    obtain ⟨u, hu, hr⟩ := run_succ_next h
    obtain ⟨red₁, reads₁, h₁⟩ := step_withRed red reads hu
    rw [run_succ h₁]
    exact ih red₁ reads₁ hr

end

/-- Settles O55: replacing the red plane and the record of reads commutes with every micro-op and every host action, hence with a
step, and by induction on the number of steps with a run. -/
theorem redPlaneIsNeverRead : Obligations.RedPlaneIsNeverRead :=
  fun _ red reads =>
    ⟨fun _ h => ⟨step_withRed red reads h, fun he => step_engine_withRed red reads he h⟩, fun _ _ h => run_withRed red reads h⟩

end Sys2Proof.Machine
end

section
/-! The passes of the transfer engine (44_frame_transfer.md R189 to R191): how often a frame holds a micro-op, the plane read in order
where there is no margin, and the constant margin rows. -/

namespace Sys2Proof.Machine
open Sys2Proof

/-- How many micro-ops of a frame meet `P`, where `P` says the same of every transfer: those of the command byte, and for each data
byte those of its pair. -/
theorem countP_frame {P : Uop → Bool} {b : Bool} (hx : ∀ src, P (.xfer src) = b) (o : Byte) (l : List ByteSrc) :
    (frame o l).countP P =
      (P (.setl .dc false)).toNat + b.toNat + l.length * ((P (.setl .dc true)).toNat + b.toNat) := by
  have one : ∀ level src, [Uop.setl .dc level, .xfer src].countP P = (P (.setl .dc level)).toNat + b.toNat := by
    intro level src
    cases h : P (.setl .dc level) <;> cases b <;> simp [h, hx]
  have data : (l.flatMap dat).countP P = l.length * ((P (.setl .dc true)).toNat + b.toNat) := by
    induction l with
    | nil => simp
    | cons src l ih => rw [List.flatMap_cons, List.countP_append, ih, dat, one, List.length_cons]; ring
  rw [frame, List.countP_append, data, cmd, one]

/-- A frame has one command byte. -/
@[simp] theorem countP_frame_command (o : Byte) (l : List ByteSrc) :
    (frame o l).countP (fun u => decide (u = .setl .dc false)) = 1 :=
  (countP_frame (b := false) (fun _ => rfl) o l).trans (by simp)

/-- A frame has a data byte for each of its sources. -/
@[simp] theorem countP_frame_data (o : Byte) (l : List ByteSrc) :
    (frame o l).countP (fun u => decide (u = .setl .dc true)) = l.length :=
  (countP_frame (b := false) (fun _ => rfl) o l).trans (by simp)

/-- A frame has no wait. -/
@[simp] theorem countP_frame_wait (o : Byte) (l : List ByteSrc) :
    (frame o l).countP (fun u => decide (u = .waiti)) = 0 :=
  (countP_frame (b := false) (fun _ => rfl) o l).trans (by simp)

/-- A frame transfers its command byte and its data bytes. -/
@[simp] theorem countP_frame_transfer (o : Byte) (l : List ByteSrc) : (frame o l).countP isTransfer = 1 + l.length :=
  (countP_frame (b := true) (fun _ => rfl) o l).trans (by simp [isTransfer])

/-- `DISPLAY_FRAME` in terms of its frames: the passes of its mode, the two frames and the wait of `ACT_SEQ`, and `END`. -/
theorem program_displayFrame_eq (c : Cfg) (mode : UpdateMode) (full hl : Bool) :
    program c (.displayFrame mode full hl) = some
      ((if sendsRed mode then frame c.opcWriteRamRed (c.redFill (.picture full hl)) else [])
        ++ (if sendsBlack mode then frame c.opcWriteRamBlack (c.blackFill (.picture full)) else [])
        ++ (frame c.opcUpdateCtrl2 [.imm c.duc2Flag] ++ frame c.opcActivate [] ++ [.waiti]) ++ [.endOp]) := rfl

/-- A pass whose source for a row and a column is that of their place in the plane names the plane in order. -/
theorem passSrcs_of_rowMajor {c : Cfg} {f : Nat → Nat → ByteSrc} {g : Nat → ByteSrc} (h : ∀ r k, f r k = g (r * c.bw + k)) :
    c.passSrcs f = (List.range c.n).map g := by
  rw [passSrcs_eq, Cfg.n, Nat.mul_comm c.h]
  exact List.map_congr_left fun a _ => by rw [h, Nat.div_add_mod']

section
variable {c : Cfg} {full : Bool} (h : full = true ∨ c.m = 0)
include h

/-- `full = 1` and `M = 0` leave no effective margin (44_frame_transfer.md R181). -/
theorem effMargin_eq_zero : c.effMargin full = 0 := by
  obtain rfl | hm := h
  · rfl
  · simp [Cfg.effMargin, hm]

/-- With no effective margin the black pass names the plane in order. -/
theorem blackFill_of_no_margin : c.blackFill (.picture full) = (List.range c.n).map .fbb :=
  passSrcs_of_rowMajor fun r k => by
    simp [Cfg.blackSrc, Cfg.inMargin, Cfg.marginHalf, effMargin_eq_zero h]

/-- With no effective margin the red pass names the complement of the plane in order, its rows not shifted. -/
theorem redFill_of_no_margin (hl : Bool) : c.redFill (.picture full hl) = (List.range c.n).map .fbbn :=
  passSrcs_of_rowMajor fun r k => by
    simp [Cfg.redSrc, Cfg.inMargin, Cfg.redShift, Cfg.marginHalf, effMargin_eq_zero h]

end

/-- The margin rows in terms of `MH` and `VH`: those above `MH`, those below row `VH + MH`, and that row where the bottom margin is
closed (44_frame_transfer.md R181). -/
theorem inMargin_of_marginRow {c : Cfg} {r : Nat} (hm : c.m ≠ 0)
    (hr : r < c.mh ∨ c.vh + c.mh < r ∨ (c.marginBotOpen = false ∧ r = c.vh + c.mh)) : c.inMargin false r = true := by
  rw [inMargin_iff]
  refine ⟨hm, ?_⟩
  have bottom : c.bottomRow false = c.vh + c.mh + if c.marginBotOpen then 1 else 0 := rfl
  rw [bottom]
  obtain htop | hbelow | ⟨hclosed, rfl⟩ := hr
  · exact .inl htop
  · right; split <;> omega
  · right; simp [hclosed]

/-- Settles O33: the counts of `DISPLAY_FRAME` are the sums of the counts of its frames, two micro-ops for each byte. -/
theorem displayFrameSendsTheStatedCounts : Obligations.DisplayFrameSendsTheStatedCounts := by
  refine ⟨fun c full hl => ?passes, fun c mode full hl p hp => ?programs, fun c hw hh => ?scenario⟩
  case passes =>
    simp [redPass, blackPass, frameWriteRamRed, frameWriteRamBlack, Cfg.n]
  case programs =>
    rw [program_displayFrame_eq, Option.some.injEq] at hp
    subst hp
    cases mode with
    | both | blackOnly | redOnly => simp [sendsRed, sendsBlack, isTransfer]; omega
  case scenario =>
    simp [Cfg.n, Cfg.bw, hw, hh]

/-- Settles O34: without an effective margin both passes name the plane in order, and a source of the red pass delivers the
complement. -/
theorem passesRoundTripWithoutAMargin : Obligations.PassesRoundTripWithoutAMargin := by
  intro s full hl h
  rw [blackFill_of_no_margin h, redFill_of_no_margin h, List.map_map, List.map_map]
  exact ⟨rfl, rfl⟩

/-- Settles O35: a margin row has the constant source in both passes. -/
theorem marginRowsAreConstant : Obligations.MarginRowsAreConstant := by
  intro c hl r k hm _ hr
  have hin := inMargin_of_marginRow hm hr
  exact ⟨if_pos hin, if_pos hin⟩

end Sys2Proof.Machine
end

section
/-! The request word (30_encoding.md sections 1 and 4): the decoder and the encoder are inverse to each other, and the legal words. -/

namespace Sys2Proof
open Sys2Proof.Machine

/-- The decoder on a word with `RSV = 0` and `OP` below `0xC`. -/
theorem decode_reqWord {op : BitVec 4} (h : op < 0xC#4) (arg : Byte) : decode (reqWord op arg) = decodeOp op.toNat arg := by
  rw [decode, reqWord_op, reqWord_rsv, reqWord_arg, if_neg (BitVec.not_le.mpr h), if_pos rfl]

/-- The decoder on a word of the reserved range. -/
theorem decode_reserved (x : BitVec 14) : decode (3#2 ++ x : Half) = .ok (.reservedOp x) := by
  have h : 0xC#4 ≤ (3#2 ++ x : Half).extractLsb' 12 4 := (reserved_iff _).mpr (by rw [reserved_toNat]; omega)
  rw [decode, if_pos h, reserved_low]

/-- An operation without operand has the argument 0 alone. -/
theorem decodeNoArg_eq_ok {arg : Byte} {i j : Instr} : decodeNoArg arg i = .ok j ↔ arg = 0 ∧ j = i := by
  unfold decodeNoArg
  split <;> rename_i h <;> simp [h, eq_comm]

/-- The arguments of `LOAD_LUT` are the table numbers. -/
theorem decodeLoadLut_eq_ok {arg : Byte} {j : Instr} : decodeLoadLut arg = .ok j ↔ ∃ t : BitVec 3, arg = 0#5 ++ t ∧ j = .loadLut t := by
  have encoded : ∀ t : BitVec 3, decodeLoadLut (0#5 ++ t) = .ok (.loadLut t) := by decide
  have fields : ∀ a : Byte, a.extractLsb' 3 5 = 0#5 → a = 0#5 ++ a.extractLsb' 0 3 := by decide
  constructor
  · intro h
    unfold decodeLoadLut at h
    split at h
    · rename_i h0; cases h; exact ⟨_, fields arg h0, rfl⟩
    · cases h
  · rintro ⟨t, rfl, rfl⟩; exact encoded t

/-- The argument of `DISPLAY_FRAME`. -/
def displayArg (mode : UpdateMode) (full hl : Bool) : Byte :=
  0#4 ++ (BitVec.ofBool hl ++ (BitVec.ofBool full ++ encodeMode mode))

/-- The arguments of `DISPLAY_FRAME` are those of its modes and flags. -/
theorem decodeDisplayFrame_eq_ok {arg : Byte} {j : Instr} :
    decodeDisplayFrame arg = .ok j ↔ ∃ mode full hl, arg = displayArg mode full hl ∧ j = .displayFrame mode full hl := by
  have encoded : ∀ mode full hl, decodeDisplayFrame (displayArg mode full hl) = .ok (.displayFrame mode full hl) := by
    intro mode; cases mode <;> decide
  have fields : ∀ a : Byte, a.extractLsb' 4 4 = 0#4 →
      decodeMode (a.extractLsb' 0 2) = none ∨ ∃ full hl, a = displayArg .both full hl ∨ a = displayArg .blackOnly full hl ∨
        a = displayArg .redOnly full hl := by decide
  constructor
  · intro h
    by_cases h0 : arg.extractLsb' 4 4 = 0#4
    · obtain hn | ⟨full, hl, rfl | rfl | rfl⟩ := fields arg h0
      · rw [decodeDisplayFrame, if_pos h0, hn] at h; cases h
      all_goals exact ⟨_, full, hl, rfl, Except.ok.inj (h.symm.trans (encoded _ full hl))⟩
    · rw [decodeDisplayFrame, if_neg h0] at h; cases h
  · rintro ⟨mode, full, hl, rfl, rfl⟩; exact encoded mode full hl

/-- The arguments of `SHOW` are its flag. -/
theorem decodeShow_eq_ok {arg : Byte} {j : Instr} :
    decodeShow arg = .ok j ↔ ∃ alarm, arg = 0#7 ++ BitVec.ofBool alarm ∧ j = .showSession alarm := by
  have encoded : ∀ alarm, decodeShow (0#7 ++ BitVec.ofBool alarm) = .ok (.showSession alarm) := by decide
  have fields : ∀ a : Byte, a.extractLsb' 1 7 = 0#7 → a = 0#7 ++ BitVec.ofBool (a.getLsbD 0) := by decide
  constructor
  · intro h
    unfold decodeShow at h
    split at h
    · rename_i h0; cases h; exact ⟨_, fields arg h0, rfl⟩
    · cases h
  · rintro ⟨alarm, rfl, rfl⟩; exact encoded alarm

/-- Settles O1: the decoder reads the fields of the word back, and then the operands from the argument. -/
theorem decodeReadsBackEveryRequest : Obligations.DecodeReadsBackEveryRequest := by
  intro i w h
  cases i with
  | waitIdle | reset | initPanel | loadLutBw | loadLutRed | sleep | clearToWhite =>
    cases h; exact (decode_reqWord (by decide) _).trans (decodeNoArg_eq_ok.mpr ⟨rfl, rfl⟩)
  | sendCommand _ | sendData _ => cases h; exact decode_reqWord (by decide) _
  | loadLut t => cases h; exact (decode_reqWord (by decide) _).trans (decodeLoadLut_eq_ok.mpr ⟨t, rfl, rfl⟩)
  | displayFrame mode full hl =>
    cases h; exact (decode_reqWord (by decide) _).trans (decodeDisplayFrame_eq_ok.mpr ⟨mode, full, hl, rfl, rfl⟩)
  | showSession alarm => cases h; exact (decode_reqWord (by decide) _).trans (decodeShow_eq_ok.mpr ⟨alarm, rfl, rfl⟩)
  | reservedOp x => cases h; exact decode_reserved x
  | _ => cases h

/-- An operation that `OP` and `ARG` decode to has the word they make. -/
theorem requestWord_of_decodeOp {op : BitVec 4} {arg : Byte} {i : Instr} (hop : op < 0xC#4) (h : decodeOp op.toNat arg = .ok i) :
    requestWord i = some (reqWord op arg) := by
  have codes : ∀ o : BitVec 4, o < 0xC#4 → o = 0 ∨ o = 1 ∨ o = 2 ∨ o = 3 ∨ o = 4 ∨ o = 5 ∨ o = 6 ∨ o = 7 ∨ o = 8 ∨ o = 9 ∨
      o = 10 ∨ o = 11 := by decide
  have noArg : ∀ {j}, decodeNoArg arg j = .ok i → requestWord j = some (reqWord op 0) → requestWord i = some (reqWord op arg) := by
    intro j hj hw
    obtain ⟨rfl, rfl⟩ := decodeNoArg_eq_ok.mp hj
    exact hw
  obtain rfl | rfl | rfl | rfl | rfl | rfl | rfl | rfl | rfl | rfl | rfl | rfl := codes op hop
  · exact noArg h rfl
  · cases h; rfl
  · cases h; rfl
  · exact noArg h rfl
  · exact noArg h rfl
  · obtain ⟨t, rfl, rfl⟩ := decodeLoadLut_eq_ok.mp h; rfl
  · exact noArg h rfl
  · exact noArg h rfl
  · obtain ⟨mode, full, hl, rfl, rfl⟩ := decodeDisplayFrame_eq_ok.mp h; rfl
  · exact noArg h rfl
  · exact noArg h rfl
  · obtain ⟨alarm, rfl, rfl⟩ := decodeShow_eq_ok.mp h; rfl

/-- Settles O2: a word that decodes is made of the fields the decoder has read. -/
theorem everyDecodedWordIsItsEncoding : Obligations.EveryDecodedWordIsItsEncoding := by
  intro w i h
  by_cases hres : 0xC#4 ≤ w.extractLsb' 12 4
  · rw [eq_reserved hres, decode_reserved] at h
    cases h
    exact congrArg some (eq_reserved hres).symm
  · by_cases hrsv : w.extractLsb' 8 4 = 0#4
    · rw [eq_reqWord hrsv, decode_reqWord (BitVec.not_le.mp hres)] at h
      rw [requestWord_of_decodeOp (BitVec.not_le.mp hres) h, ← eq_reqWord hrsv]
    · rw [decode, if_neg hres, if_neg hrsv] at h; cases h

/-- The decoder reads a word as an instruction exactly where it is the instruction's request word. -/
theorem decode_eq_ok_iff {w : Half} {i : Instr} : decode w = .ok i ↔ requestWord i = some w :=
  ⟨everyDecodedWordIsItsEncoding w i, decodeReadsBackEveryRequest i w⟩

/-- The words of one `OP` with a byte operand are a range of 256. -/
theorem reqWord_mem_range (op : BitVec 4) (arg : Byte) :
    op.toNat * 4096 ≤ (reqWord op arg).toNat ∧ (reqWord op arg).toNat ≤ op.toNat * 4096 + 255 := by
  rw [reqWord_toNat]; omega

/-- A word in the range of an `OP` is that `OP` with its low byte. -/
theorem eq_reqWord_of_mem_range {q : Half} {op : BitVec 4} (h : op.toNat * 4096 ≤ q.toNat ∧ q.toNat ≤ op.toNat * 4096 + 255) :
    q = reqWord op (BitVec.ofNat 8 q.toNat) := by
  apply BitVec.eq_of_toNat_eq
  rw [reqWord_toNat, BitVec.toNat_ofNat]; omega

/-- Zero bits in front leave the value. -/
theorem toNat_zero_append (m : Nat) {n : Nat} (x : BitVec n) : (0#m ++ x).toNat = x.toNat := by
  rw [BitVec.toNat_append]; simp

/-- The words of `LOAD_LUT`. -/
theorem loadLut_word_iff (q : Half) : (0x5000 ≤ q ∧ q ≤ 0x5007) ↔ ∃ t, requestWord (.loadLut t) = some q := by
  constructor
  · intro h
    have h : 0x5000 ≤ q.toNat ∧ q.toNat ≤ 0x5007 := h
    refine ⟨BitVec.ofNat 3 q.toNat, congrArg some (BitVec.eq_of_toNat_eq ?_)⟩
    rw [reqWord_toNat, toNat_zero_append 5, BitVec.toNat_ofNat, show (5 : BitVec 4).toNat = 5 from rfl]; omega
  · rintro ⟨t, ht⟩
    cases ht
    revert t; decide

/-- The words of `DISPLAY_FRAME`: sixteen but for the four of mode 3. -/
theorem displayFrame_word_iff (q : Half) :
    (0x8000 ≤ q ∧ q ≤ 0x800F ∧ q ≠ 0x8003 ∧ q ≠ 0x8007 ∧ q ≠ 0x800B ∧ q ≠ 0x800F) ↔
      ∃ mode full hl, requestWord (.displayFrame mode full hl) = some q := by
  have args : ∀ x : BitVec 4, reqWord 8 (0#4 ++ x) = 0x8003 ∨ reqWord 8 (0#4 ++ x) = 0x8007 ∨ reqWord 8 (0#4 ++ x) = 0x800B ∨
      reqWord 8 (0#4 ++ x) = 0x800F ∨ ∃ full hl, (0#4 ++ x) = displayArg .both full hl ∨ (0#4 ++ x) = displayArg .blackOnly full hl ∨
        (0#4 ++ x) = displayArg .redOnly full hl := by decide
  constructor
  · rintro ⟨hlo, hhi, h3, h7, hB, hF⟩
    have hlo : 0x8000 ≤ q.toNat := hlo
    have hhi : q.toNat ≤ 0x800F := hhi
    have hq : q = reqWord 8 (0#4 ++ BitVec.ofNat 4 q.toNat) := by
      apply BitVec.eq_of_toNat_eq
      rw [reqWord_toNat, toNat_zero_append 4, BitVec.toNat_ofNat, show (8 : BitVec 4).toNat = 8 from rfl]; omega
    obtain h | h | h | h | ⟨full, hl, h⟩ := args (BitVec.ofNat 4 q.toNat)
    · exact absurd (hq.trans h) h3
    · exact absurd (hq.trans h) h7
    · exact absurd (hq.trans h) hB
    · exact absurd (hq.trans h) hF
    · obtain h | h | h := h <;> exact ⟨_, full, hl, congrArg some ((congrArg (reqWord 8) h).symm.trans hq.symm)⟩
  · rintro ⟨mode, full, hl, hw⟩
    cases hw
    cases mode <;> revert full hl <;> decide

/-- Settles O3: the legal words are the request words of the twelve operations, one range for each. -/
theorem legalWordsAreTheListedOnes : Obligations.LegalWordsAreTheListedOnes := by
  intro q
  simp only [decode_eq_ok_iff]
  constructor
  · rintro ⟨i, hw, hi⟩
    cases i with
    | waitIdle | reset | initPanel | loadLutBw | loadLutRed | sleep | clearToWhite => cases hw; decide
    | sendCommand o => cases hw; exact .inr (.inl (reqWord_mem_range 1 o))
    | sendData b => cases hw; exact .inr (.inr (.inl (reqWord_mem_range 2 b)))
    | loadLut t => have := (loadLut_word_iff q).mpr ⟨t, hw⟩; tauto
    | displayFrame mode full hl => have := (displayFrame_word_iff q).mpr ⟨mode, full, hl, hw⟩; tauto
    | showSession alarm => cases hw; revert alarm; decide
    | _ => cases hi
  · rintro (rfl | h | h | rfl | rfl | h | rfl | rfl | h | rfl | rfl | rfl | rfl)
    · exact ⟨.waitIdle, rfl, rfl⟩
    · exact ⟨.sendCommand _, congrArg some (eq_reqWord_of_mem_range (op := 1) h).symm, rfl⟩
    · exact ⟨.sendData _, congrArg some (eq_reqWord_of_mem_range (op := 2) h).symm, rfl⟩
    · exact ⟨.reset, rfl, rfl⟩
    · exact ⟨.initPanel, rfl, rfl⟩
    · obtain ⟨t, ht⟩ := (loadLut_word_iff q).mp h; exact ⟨_, ht, rfl⟩
    · exact ⟨.loadLutBw, rfl, rfl⟩
    · exact ⟨.loadLutRed, rfl, rfl⟩
    · obtain ⟨mode, full, hl, hw⟩ := (displayFrame_word_iff q).mp h; exact ⟨_, hw, rfl⟩
    · exact ⟨.sleep, rfl, rfl⟩
    · exact ⟨.clearToWhite, rfl, rfl⟩
    · exact ⟨.showSession false, rfl, rfl⟩
    · exact ⟨.showSession true, rfl, rfl⟩

/-- Settles O4: each word decodes by computation. -/
theorem sampleWordsDecode : Obligations.SampleWordsDecode := by
  unfold Obligations.SampleWordsDecode
  decide

end Sys2Proof
end

section
/-! The wire format (30_encoding.md section 2): the `DC` levels alone tell the frames apart. -/

namespace Sys2Proof
open Sys2Proof.Machine

/-- Data bytes that stand before something else are read as the data of what is being sent. -/
theorem decodeWire_data_append (data : List Byte) (rest : List (Level × Byte)) :
    decodeWire ((data.map fun b => (true, b)) ++ rest) = (data ++ (decodeWire rest).1, (decodeWire rest).2) := by
  induction data with
  | nil => rfl
  | cons b data ih => rw [List.map_cons, List.cons_append, decodeWire, ih]; rfl

/-- A frame is read up to the command byte of what follows. -/
theorem decodeWire_frame_append (f : WireFrame) (rest : List (Level × Byte)) :
    decodeWire (f.bytes ++ rest) = ([], { command := f.command, data := f.data ++ (decodeWire rest).1 } :: (decodeWire rest).2) := by
  rw [WireFrame.bytes, List.cons_append, decodeWire, decodeWire_data_append]

/-- A sequence of frames is read back, with no data byte before it. -/
theorem decodeWire_encodeWire (fs : List WireFrame) : decodeWire (encodeWire fs) = ([], fs) := by
  induction fs with
  | nil => rfl
  | cons f fs ih =>
    rw [encodeWire, List.flatMap_cons, decodeWire_frame_append, ← encodeWire, ih, List.append_nil]

/-- Settles O5: the data bytes before the first command byte, and then the frames one by one. -/
theorem wireFramesReadBack : Obligations.WireFramesReadBack := by
  intro lead fs
  rw [decodeWire_data_append, decodeWire_encodeWire, List.append_nil]

/-- The bytes of a command, whatever the level of `DC` before. -/
theorem wireBytes_commandEvents_append (c : Cfg) (dc : Level) (v : Byte) (es : List Event) :
    wireBytes dc (commandEvents c v ++ es) = (false, v) :: wireBytes false es := rfl

/-- The bytes of data, whatever the level of `DC` before. -/
theorem wireBytes_data (c : Cfg) (dc : Level) (data : List Byte) :
    wireBytes dc (data.flatMap (dataEvents c)) = data.map fun b => (true, b) := by
  induction data generalizing dc with
  | nil => rfl
  | cons b data ih => exact congrArg ((true, b) :: ·) (ih true)

/-- The events of a frame carry the bytes of its encoding. -/
theorem wireBytes_frameEvents (c : Cfg) (dc : Level) (command : Byte) (data : List Byte) :
    wireBytes dc (frameEvents c command data) = WireFrame.bytes { command := command, data := data } := by
  rw [frameEvents, wireBytes_commandEvents_append, wireBytes_data, WireFrame.bytes]

/-- Settles O6: the events of a frame carry its encoding, which reads back as the frame. -/
theorem frameEventsReadBackAsTheFrame : Obligations.FrameEventsReadBackAsTheFrame := by
  intro c dc command data
  rw [wireBytes_frameEvents]
  simpa [encodeWire] using decodeWire_encodeWire [{ command := command, data := data }]

end Sys2Proof
end

section
/-! One step on each agent's turn (30_encoding.md section 3, 10_state.md section 4): the engine's micro-op, the pass of the engine at
rest, and the accesses of the host. -/

namespace Sys2Proof.Machine
open Sys2Proof

/-- The turn at the head of the schedule, taken. -/
theorem turnTaken_of_cons {s : State} {x : Turn} {rest : List Turn} (h : s.sched = x :: rest) :
    s.turnTaken = { s with sched := rest } := by
  rw [State.turnTaken, h, List.tail_cons]

/-- While `RUN = 1` the engine fetches the micro-op at `SEQ`. -/
theorem fetchEngine_of_running {s : State} {p : List Uop} {u : Uop} (hr : s.run = true) (hp : s.program = some p)
    (hu : p[s.seq.toNat]? = some u) : fetchEngine s = .instr u.instr s := by
  simp only [fetchEngine, hr, hp, hu, if_true]

/-- At rest the engine fetches nothing. -/
theorem fetchEngine_at_rest {s : State} (hr : s.run = false) : fetchEngine s = .done (.next s) := by
  simp [fetchEngine, hr]

/-- The engine's step while `RUN = 1` is the micro-op at `SEQ`. -/
theorem step_of_uop {s : State} {p : List Uop} {u : Uop} (hw : s.cfg.wf = true) (he : s.engineTurn) (hr : s.run = true)
    (hp : s.program = some p) (hu : p[s.seq.toNat]? = some u) : step s = runUop u s.turnTaken := by
  rw [step_of_engineTurn hw he, fetchEngine_of_running (s := s.turnTaken) hr hp hu]
  exact exec_instr u s.turnTaken

/-- The engine's turn at rest. -/
theorem step_at_rest {s : State} (hw : s.cfg.wf = true) (he : s.engineTurn) (hr : s.run = false) :
    step s = .next s.turnTaken := by
  rw [step_of_engineTurn hw he, fetchEngine_at_rest (s := s.turnTaken) hr]; rfl

/-- The host's turn, with the state it is taken in written out. -/
theorem step_of_host_cons {s : State} {act : HostAct} {rest : List Turn} (hw : s.cfg.wf = true)
    (hs : s.sched = .host act :: rest) : step s = (fetchHost act { s with sched := rest }).run := by
  rw [step_of_host hw hs, turnTaken_of_cons hs]

/-- A write of `REQ` with a word that decodes. -/
theorem step_writeReq_of_ok {s : State} {q : Half} {i : Instr} {rest : List Turn} (hw : s.cfg.wf = true)
    (hs : s.sched = .host (.writeReq q) :: rest) (hd : decode q = .ok i) : step s = exec i { s with sched := rest } := by
  simp only [step_of_host_cons hw hs, fetchHost, hd, Fetched.run]

/-- A write of `REQ` with a word that the decoder rejects. -/
theorem step_writeReq_of_error {s : State} {q : Half} {e : DecodeError} {rest : List Turn} (hw : s.cfg.wf = true)
    (hs : s.sched = .host (.writeReq q) :: rest) (hd : decode q = .error e) :
    step s = .next ({ s with sched := rest } : State).requestIllegal := by
  simp only [step_of_host_cons hw hs, fetchHost, hd, Fetched.run]

/-- An access of a plane inside it. -/
theorem step_access_of_lt {s : State} {act : HostAct} {rest : List Turn} {a : Nat} {t : State} (hw : s.cfg.wf = true)
    (hs : s.sched = .host act :: rest) (ha : a < s.cfg.n)
    (hact : fetchHost act { s with sched := rest } = .done (if a < s.cfg.n then .next t else .fault (.noPlaneByte a))) :
    step s = .next t := by
  rw [step_of_host_cons hw hs, hact, if_pos ha]; rfl

/-- An access past the end of a plane. -/
theorem step_access_of_le {s : State} {act : HostAct} {rest : List Turn} {a : Nat} {t : State} (hw : s.cfg.wf = true)
    (hs : s.sched = .host act :: rest) (ha : s.cfg.n ≤ a)
    (hact : fetchHost act { s with sched := rest } = .done (if a < s.cfg.n then .next t else .fault (.noPlaneByte a))) :
    step s = .fault (.noPlaneByte a) := by
  rw [step_of_host_cons hw hs, hact, if_neg (Nat.not_lt.mpr ha)]; rfl

/-- The verdict on an illegal word, `EngineBusy` first (60_exceptions.md R248). -/
theorem requestIllegal_eq (s : State) : s.requestIllegal = s.refuse (if s.run then .engineBusy else .illegalRequest) := by
  rw [State.requestIllegal, apply_ite s.refuse]

/-- The meaning of the reserved range is the verdict on an illegal word. -/
theorem exec_reservedOp (x : BitVec 14) (s : State) :
    exec (.reservedOp x) s = .next (s.refuse (if s.run then .engineBusy else .illegalRequest)) :=
  congrArg Host.Outcome.next (requestIllegal_eq s)

/-- Settles O7: the host's turn with a word that decodes. -/
theorem stepRunsTheRequestWritten : Obligations.StepRunsTheRequestWritten :=
  fun _ _ _ _ hw hs hd => step_writeReq_of_ok hw hs hd

/-- Settles O8: the engine's turn while `RUN = 1`. -/
theorem stepRunsTheMicroOpAtSeq : Obligations.StepRunsTheMicroOpAtSeq :=
  fun s _ u hw he hr hp hu => (step_of_uop hw he hr hp hu).trans (exec_instr u s.turnTaken).symm

/-- Settles O9: the engine's turn at rest. -/
theorem engineTurnAtRestChangesNothing : Obligations.EngineTurnAtRestChangesNothing :=
  fun _ hw he hr => step_at_rest hw he hr

/-- The ranges of a configuration, one by one (00_scope.md R8). -/
theorem wf_iff (c : Cfg) : c.wf = true ↔
    1 ≤ c.w ∧ c.w ≤ 2048 ∧ 1 ≤ c.h ∧ c.h ≤ 65536 ∧ c.m < c.h ∧ 1 ≤ c.duc1Data.length ∧
      60 + 2 * c.duc1Data.length ≤ 2 ^ 32 ∧ c.waitTimeout ≠ some 0 := by
  have bound : (∀ n ∈ c.waitTimeout, 1 ≤ n) ↔ c.waitTimeout ≠ some 0 := by
    cases c.waitTimeout <;> simp [Nat.one_le_iff_ne_zero]
  simp only [Cfg.wf, Bool.and_eq_true, decide_eq_true_eq, bound, and_assoc]

/-- Settles O10: the step looks at the check first, and the check is the list of ranges. -/
theorem illegalConfigurationIsRefused : Obligations.IllegalConfigurationIsRefused := by
  intro s c outOfRange longerThanSeq
  have ranges : c.wf = true ↔ ¬ outOfRange ∧ ¬ longerThanSeq := by
    have empty : c.duc1Data = [] ↔ c.duc1Data.length = 0 := List.length_eq_zero_iff.symm
    simp only [wf_iff, outOfRange, longerThanSeq, empty, not_or, ← ne_eq]
    by_cases ht : c.waitTimeout = some 0
    · simp [ht]
    · simp only [ne_eq, ht, not_false_eq_true, and_true]; omega
  constructor
  · intro h
    refine (step_refused_iff s _).mpr ⟨?_, rfl⟩
    rw [← Bool.not_eq_true, ranges]; tauto
  · intro ho hl
    have hw : s.cfg.wf = true := ranges.mpr ⟨ho, hl⟩
    exact ⟨hw, fun h => by simpa [hw] using (step_refused_iff s _).mp h⟩

/-- Settles O11: the verdict on an illegal word, `EngineBusy` first. -/
theorem illegalWordSetsRejAlone : Obligations.IllegalWordSetsRejAlone := by
  intro s q e rest hw hs hd
  rw [step_writeReq_of_error hw hs hd, requestIllegal_eq]; rfl

/-- Settles O57: a host read of a plane inside it and past its end. -/
theorem hostReadReturnsTheByte : Obligations.HostReadReturnsTheByte :=
  fun _ _ _ _ hw hs => ⟨fun ha => step_access_of_lt hw hs ha rfl, fun ha => step_access_of_le hw hs ha rfl⟩

/-- The fields of a word put together from `RUN`, `PSTATE`, `ERR` and `REJ`. -/
theorem status_fields (rej : BitVec 2) (err pstate : BitVec 3) (run : Bool) :
    let w : Half := 0#7 ++ (rej ++ (err ++ (pstate ++ BitVec.ofBool run)))
    w.extractLsb' 0 1 = BitVec.ofBool run ∧ w.extractLsb' 1 3 = pstate ∧ w.extractLsb' 4 3 = err ∧ w.extractLsb' 7 2 = rej ∧
      w.extractLsb' 9 7 = 0 := by
  revert rej err pstate run; decide

/-- Settles O58: the fields of `STATUS`, and the codes of each field. -/
theorem statusReportsItsFields : Obligations.StatusReportsItsFields := by
  intro s
  obtain ⟨hrun, hpstate, herr, hrej, htop⟩ := status_fields s.rej.code s.err.code s.pstate s.run
  refine ⟨hrun, hpstate.trans ?pstate, herr.trans ?err, hrej.trans ?rej, htop⟩
  case pstate => rw [State.pstate]; cases s.ps <;> rfl
  case err => cases s.err <;> rfl
  case rej => cases s.rej <;> rfl

/-- Settles O59: the three register accesses that are no request. -/
theorem registerReadsHaveNoSideEffect : Obligations.RegisterReadsHaveNoSideEffect :=
  fun _ _ hw => ⟨fun hs => step_of_host_cons hw hs, fun hs => step_of_host_cons hw hs, fun _ hs => step_of_host_cons hw hs⟩

/-- Settles O60: the values of the state after reset, and those a block reset gives whatever was in progress. -/
theorem resetLeavesTheStatedValues : Obligations.ResetLeavesTheStatedValues := by
  refine ⟨⟨rfl, rfl, by decide, rfl, rfl, rfl, rfl⟩, fun s rest hw hs => ?_⟩
  exact ⟨_, step_of_host_cons hw hs, rfl, rfl, rfl, rfl, rfl, rfl, rfl, rfl, rfl, rfl, rfl, rfl, rfl, rfl⟩

end Sys2Proof.Machine
end

section
/-! The verdict on a request (10_state.md section 4, 60_exceptions.md section 1). -/

namespace Sys2Proof.Machine
open Sys2Proof

/-- While `RUN = 1` a request is refused. -/
theorem request_of_running {s : State} (hr : s.run = true) (i : Instr) : s.request i = s.refuse .engineBusy := by
  simp [State.request, hr]

/-- At rest a permitted request is accepted. -/
theorem request_of_permitted {s : State} {i : Instr} (hr : s.run = false) (hp : permitted i s.ps = true) :
    s.request i = s.accept (wordOf i) := by
  simp [State.request, hr, hp]

/-- At rest any other request is refused. -/
theorem request_of_not_permitted {s : State} {i : Instr} (hr : s.run = false) (hp : permitted i s.ps = false) :
    s.request i = s.refuse .illegalState := by
  simp [State.request, hr, hp]

/-- A permitted operation is accepted with its word. -/
theorem exec_of_permitted {s : State} {i : Instr} {w : Half} (hi : isOperation i = true) (hr : s.run = false)
    (hp : permitted i s.ps = true) (hw : wordOf i = w) : exec i s = .next (s.accept w) := by
  rw [exec_operation hi, request_of_permitted hr hp, hw]

/-- An operation that is not permitted changes `REJ` alone. -/
theorem exec_of_not_permitted {s : State} {i : Instr} (hi : isOperation i = true) (hr : s.run = false)
    (hp : permitted i s.ps = false) : exec i s = .next (s.refuse .illegalState) := by
  rw [exec_operation hi, request_of_not_permitted hr hp]

/-- In `Uninit` and `Idle` every request is permitted. -/
theorem permitted_of_uninit_or_idle {ps : PanelState} (h : ps = .uninit ∨ ps = .idle) (i : Instr) : permitted i ps = true := by
  obtain rfl | rfl := h <;> rfl

/-- An operation that begins with a reset pulse is permitted in every panel state. -/
theorem permitted_of_pulse {i : Instr} (h : beginsWithResetPulse i = true) (ps : PanelState) : permitted i ps = true := by
  cases ps with
  | uninit | idle => rfl
  | sleeping | fault => exact h

/-- Any other request is not permitted in `Sleeping` and in `Fault`. -/
theorem not_permitted_of_sleeping_or_fault {ps : PanelState} (h : ps = .sleeping ∨ ps = .fault) {i : Instr}
    (hi : beginsWithResetPulse i = false) : permitted i ps = false := by
  obtain rfl | rfl := h <;> exact hi

/-- A request word is the sum of its two fields. -/
theorem reqWord_eq_add (op : BitVec 4) (arg : Byte) : reqWord op arg = BitVec.ofNat 16 (op.toNat * 4096) + arg.setWidth 16 := by
  apply BitVec.eq_of_toNat_eq
  have := op.isLt; have := arg.isLt
  rw [reqWord_toNat, BitVec.toNat_add, BitVec.toNat_ofNat, BitVec.toNat_setWidth]; omega

/-- Settles O12: every operation is permitted, and its word is the one written out. -/
theorem operationsAreAcceptedInUninitAndIdle : Obligations.OperationsAreAcceptedInUninitAndIdle := by
  intro s hr hps accepted
  have accept : ∀ {i w}, isOperation i = true → wordOf i = w → exec i s = accepted w := fun hi hw =>
    exec_of_permitted hi hr (permitted_of_uninit_or_idle hps _) hw
  have lut : ∀ t : BitVec 3, wordOf (.loadLut t) = 0x5000 + t.setWidth 16 := by decide
  have display : ∀ full hl : Bool,
      wordOf (.displayFrame .both full hl) = 0x8000 + (if full then 4 else 0) + (if hl then 8 else 0) ∧
      wordOf (.displayFrame .blackOnly full hl) = 0x8001 + (if full then 4 else 0) + (if hl then 8 else 0) ∧
      wordOf (.displayFrame .redOnly full hl) = 0x8002 + (if full then 4 else 0) + (if hl then 8 else 0) := by decide
  have session : ∀ alarm : Bool, wordOf (.showSession alarm) = 0xB000 + (if alarm then 1 else 0) := by decide
  refine ⟨accept rfl rfl, fun o => accept rfl (reqWord_eq_add 1 o), fun b => accept rfl (reqWord_eq_add 2 b), accept rfl rfl,
    accept rfl rfl, fun t => accept rfl (lut t), accept rfl rfl, accept rfl rfl, fun full hl => ?_, accept rfl rfl, accept rfl rfl,
    fun alarm => accept rfl (session alarm)⟩
  obtain ⟨both, black, red⟩ := display full hl
  exact ⟨accept rfl both, accept rfl black, accept rfl red⟩

/-- Settles O13: the three operations are permitted whatever `PS` is. -/
theorem pulseOperationsAreAcceptedInEveryState : Obligations.PulseOperationsAreAcceptedInEveryState := by
  intro s hr accepted
  have accept : ∀ {i w}, isOperation i = true → beginsWithResetPulse i = true → wordOf i = w → exec i s = accepted w :=
    fun hi hb hw => exec_of_permitted hi hr (permitted_of_pulse hb s.ps) hw
  have session : ∀ alarm : Bool, wordOf (.showSession alarm) = 0xB000 + (if alarm then 1 else 0) := by decide
  exact ⟨accept rfl rfl rfl, accept rfl rfl rfl, fun alarm => accept rfl rfl (session alarm)⟩

/-- Settles O14: the nine operations do not begin with a reset pulse. -/
theorem dataOperationsAreRefusedInSleepingAndFault : Obligations.DataOperationsAreRefusedInSleepingAndFault := by
  intro s hr hps refused
  have refuse : ∀ {i}, isOperation i = true → beginsWithResetPulse i = false → exec i s = refused := fun hi hb =>
    exec_of_not_permitted hi hr (not_permitted_of_sleeping_or_fault hps hb)
  exact ⟨refuse rfl rfl, fun _ => refuse rfl rfl, fun _ => refuse rfl rfl, fun _ => refuse rfl rfl, refuse rfl rfl, refuse rfl rfl,
    fun _ _ _ => refuse rfl rfl, refuse rfl rfl, refuse rfl rfl⟩

/-- Settles O15: while `RUN = 1` the verdict on every request is `EngineBusy`. -/
theorem requestsWhileRunningAreRefused : Obligations.RequestsWhileRunningAreRefused := by
  intro s i hr hi
  obtain hi | ⟨x, rfl⟩ := hi
  · rw [exec_operation hi, request_of_running hr, State.refuse]
  · simp [exec_reservedOp, State.refuse, hr]

/-- Settles O16: at rest the verdict on a word of the reserved range is `IllegalRequest`. -/
theorem reservedRangeIsRefused : Obligations.ReservedRangeIsRefused := by
  intro s x hr
  simp [exec_reservedOp, State.refuse, hr]

end Sys2Proof.Machine
end

section
/-! The effect of each micro-op (40_bus_transport.md, 41_framing_handshake_reset.md sections 2 and 3). -/

namespace Sys2Proof.Machine
open Sys2Proof

/-- A transfer that the bus answers `ok`. -/
theorem runUop_xfer_of_ok {s : State} {src : ByteSrc} (hw : src.wf s.cfg = true) (hb : s.busAnswer = .ok) :
    runUop (.xfer src) s = .next (s.askedBus.sendByte src) := by
  simp only [runUop, opXfer, hw, hb, if_true]

/-- A transfer that the bus answers `fault`. -/
theorem runUop_xfer_of_fault {s : State} {src : ByteSrc} (hw : src.wf s.cfg = true) (hb : s.busAnswer = .fault) :
    runUop (.xfer src) s = .next s.askedBus.sendFault := by
  simp only [runUop, opXfer, hw, hb, if_true]

/-- A transfer from outside the plane. -/
theorem runUop_xfer_of_not_wf {s : State} {src : ByteSrc} (hw : src.wf s.cfg = false) :
    runUop (.xfer src) s = .fault (.noPlaneByte (srcIndex src)) := by
  simp [runUop, opXfer, hw]

/-- A faulting transfer, field by field (40_bus_transport.md R104, 60_exceptions.md R250). -/
theorem sendFault_eq (s : State) :
    s.sendFault = { s with
      trace := s.trace ++ [.L .cs s.cfg.csAssertLevel, .F, .L .cs (!s.cfg.csAssertLevel)]
      csL := !s.cfg.csAssertLevel
      err := s.busFaultCode, ps := .fault, lastBusy := false, run := false } := by
  rw [State.sendFault, State.bracket_eq, State.abort]

/-- A wait that samples the idle level is over. -/
theorem runUop_waiti_of_idle {s : State} (h : s.busyLevel = s.cfg.busyIdleLevel) : runUop .waiti s = .next s.sampled.waitDone := by
  simp only [runUop, opWaiti, h, if_true]

/-- A wait that samples the busy level aborts at its bound or samples again. -/
theorem runUop_waiti_of_busy {s : State} (h : s.busyLevel = !s.cfg.busyIdleLevel) : runUop .waiti s = .next s.sampled.waitBusy := by
  have hne : s.busyLevel ≠ s.cfg.busyIdleLevel := by rw [h]; cases s.cfg.busyIdleLevel <;> decide
  simp only [runUop, opWaiti, hne, if_false]

/-- The busy sample at the bound aborts the operation (41_framing_handshake_reset.md R123). -/
theorem waitBusy_of_timesOut {s : State} (h : s.timesOut = true) : s.waitBusy = s.abort .timeout := by
  rw [State.waitBusy, if_pos h]; rfl

/-- A busy sample below the bound is counted (41_framing_handshake_reset.md R122). -/
theorem waitBusy_of_below {s : State} (h : s.timesOut = false) : s.waitBusy = { s.countSample with lastBusy := true } := by
  simp [State.waitBusy, h]

/-- The sample is in the trace, and one answer of the panel taken. -/
theorem sampled_eq {s : State} {level : Level} (h : s.busyLevel = level) :
    s.sampled = { s with
      trace := s.trace ++ [.S level], panel := { s.panel with script := s.panel.script.tail }, draws := s.draws + 1 } := by
  subst h; rfl

/-- Settles O18: a delay is its marker. -/
theorem delayLeavesItsMarker : Obligations.DelayLeavesItsMarker := fun s ms => exec_instr (.dly ms) s

/-- Settles O19: with nothing raced the source is read without an answer of the race. -/
theorem transferSendsTheByteNamed : Obligations.TransferSendsTheByteNamed := by
  intro s src hw hr hb
  have hr : s.askedBus.raced = [] := hr
  rw [show exec (.xfer src) s = _ from exec_instr (.xfer src) s, runUop_xfer_of_ok hw hb, State.sendByte, State.readSrc_of_calm hr,
    State.srcByte_of_calm hr, State.bracket_eq]
  cases src <;> rfl

/-- The trace of a transfer and the next `SEQ`. -/
theorem sendByte_trace (s : State) (src : ByteSrc) :
    (s.sendByte src).trace = s.trace ++ [.L .cs s.cfg.csAssertLevel, .B (s.srcByte src), .L .cs (!s.cfg.csAssertLevel)] := by
  simp [State.sendByte]

/-- Each byte a location has held is picked by some answer of the race. -/
theorem exists_pick {l : List Byte} {x v : Byte} (h : v ∈ x :: l) : ∃ k, (x :: l).getD (k % l.length.succ) x = v := by
  obtain ⟨k, hk, rfl⟩ := List.getElem_of_mem h
  have hk' : k % l.length.succ = k := Nat.mod_eq_of_lt hk
  exact ⟨k, by rw [hk', List.getD_eq_getElem _ _ hk]⟩

/-- The state with the race's next answer scripted. -/
def State.withRace (s : State) (k : Nat) : State := { s with race := { script := [k], after := none } }

/-- Each byte a location has held is read at some answer of the race. -/
theorem exists_blackByte {s : State} {a : Nat} {v : Byte} (h : v ∈ s.planeByte .black a :: s.oldBytes a) :
    ∃ k, (s.withRace k).blackByte a = v := by
  by_cases ho : s.oldBytes a = []
  · rw [ho, List.mem_singleton] at h
    exact ⟨0, (if_pos ho).trans h.symm⟩
  · obtain ⟨k, hk⟩ := exists_pick h
    exact ⟨k, (if_neg ho).trans hk⟩

/-- Each byte a source may deliver is delivered at some answer of the race. -/
theorem exists_srcByte {s : State} {src : ByteSrc} {v : Byte} (h : s.mayDeliver src v) : ∃ k, (s.withRace k).srcByte src = v := by
  cases src with
  | imm b => exact ⟨0, h.symm⟩
  | fbb a => exact exists_blackByte h
  | fbbn a =>
    obtain ⟨k, hk⟩ := exists_blackByte h
    have complement : ∀ x : Byte, ~~~(255 - x) = x := by decide
    exact ⟨k, (congrArg (~~~·) hk).trans (complement v)⟩
  | lutb t i => exact ⟨0, h.symm⟩

/-- Settles O20: a transfer sends the byte its source delivers, and each byte it may deliver is delivered at some answer. -/
theorem racedTransferSendsSomeHeldByte : Obligations.RacedTransferSendsSomeHeldByte := by
  intro s src hw hb
  constructor
  · exact ⟨s.askedBus.srcByte src, _, (exec_instr (.xfer src) s).trans (runUop_xfer_of_ok hw hb), s.askedBus.srcByte_mayDeliver src,
      by simp [State.sendByte], sendByte_trace _ _⟩
  · intro v hv
    obtain ⟨k, hk⟩ := exists_srcByte (s := s.askedBus) hv
    refine ⟨k, _, (exec_instr (.xfer src) (s.withRace k)).trans (runUop_xfer_of_ok hw hb), ?_⟩
    rw [← hk]; exact sendByte_trace (s.withRace k).askedBus src

/-- Settles O21: an index past the plane is not well formed. -/
theorem transferOutsideThePlaneStops : Obligations.TransferOutsideThePlaneStops := by
  intro s a ha
  have out : decide (a < s.cfg.n) = false := decide_eq_false (Nat.not_lt.mpr ha)
  exact ⟨(exec_instr (.xfer (.fbb a)) s).trans (runUop_xfer_of_not_wf out),
    (exec_instr (.xfer (.fbbn a)) s).trans (runUop_xfer_of_not_wf out)⟩

/-- Settles O22: the bracket around `F`, and the abort with the code of the operation in progress. -/
theorem busFaultAbortsTheOperation : Obligations.BusFaultAbortsTheOperation := by
  intro s src hw hb
  rw [show exec (.xfer src) s = _ from exec_instr (.xfer src) s, runUop_xfer_of_fault hw hb, sendFault_eq]
  rfl

/-- Settles O23: the idle level, the busy level below the bound, and the busy level at the bound. -/
theorem waitTakesOneSample : Obligations.WaitTakesOneSample := by
  intro s seen sampled
  have exec_waiti : exec .waiti s = runUop .waiti s := exec_instr .waiti s
  refine ⟨fun hi => ?idle, fun hb hbelow => ?below, fun n hb hn hle => ?bound⟩
  case idle => rw [exec_waiti, runUop_waiti_of_idle hi, sampled_eq hi]; rfl
  case below =>
    have hout : s.sampled.timesOut = false := by
      cases hn : s.cfg.waitTimeout with
      | none => exact State.timesOut_of_none hn
      | some n => rw [State.timesOut_of_some (s := s.sampled) hn]; exact decide_eq_false (Nat.not_le.mpr (hbelow n hn))
    rw [exec_waiti, runUop_waiti_of_busy hb, waitBusy_of_below hout, sampled_eq hb]; rfl
  case bound =>
    have hout : s.sampled.timesOut = true := by
      rw [State.timesOut_of_some (s := s.sampled) hn]; exact decide_eq_true hle
    rw [exec_waiti, runUop_waiti_of_busy hb, waitBusy_of_timesOut hout, sampled_eq hb]; rfl

/-- Settles O24: the panel states `SETPS` stores, and `END`. -/
theorem setpsStoresAndEndStops : Obligations.SetpsStoresAndEndStops := fun s =>
  ⟨exec_instr (.setps .uninit) s, exec_instr (.setps .idle) s, exec_instr (.setps .sleeping) s, exec_instr .endOp s⟩

end Sys2Proof.Machine
end

section
/-! The programs (30_encoding.md R79): how they are built from frames, and what every one of them meets. -/

namespace Sys2Proof.Machine
open Sys2Proof

/-- Micro-ops where every transfer stands directly after a `SETL` of `DC` and names a byte that exists, and no `SETL` drives `CS`
(20_memory.md section 4, 40_bus_transport.md section 1, 44_frame_transfer.md R195). -/
inductive SendsPaired (c : Cfg) : List Uop → Prop
  | nil : SendsPaired c []
  | byte (level : Level) (src : ByteSrc) (us : List Uop) (hw : src.wf c = true) (h : SendsPaired c us) :
      SendsPaired c (.setl .dc level :: .xfer src :: us)
  | other (u : Uop) (us : List Uop) (hx : isTransfer u = false) (hcs : ∀ level, u ≠ .setl .cs level) (h : SendsPaired c us) :
      SendsPaired c (u :: us)

namespace SendsPaired
variable {c : Cfg} {us vs : List Uop}

theorem append (hu : SendsPaired c us) (hv : SendsPaired c vs) : SendsPaired c (us ++ vs) := by
  induction hu with
  | nil => exact hv
  | byte level src us hw _ ih => exact .byte level src _ hw ih
  | other u us hx hcs _ ih => exact .other u _ hx hcs ih

/-- A transfer names a byte that exists. -/
theorem wf_of_mem (h : SendsPaired c us) {src : ByteSrc} (hm : .xfer src ∈ us) : src.wf c = true := by
  induction h with
  | nil => cases hm
  | byte level src' us hw _ ih =>
    have hm : src = src' ∨ .xfer src ∈ us := by simpa using hm
    obtain rfl | hm := hm
    · exact hw
    · exact ih hm
  | other u us hx _ _ ih =>
    obtain rfl | hm := List.mem_cons.mp hm
    · cases hx
    · exact ih hm

/-- No `SETL` drives `CS`. -/
theorem not_mem_cs (h : SendsPaired c us) (level : Level) : .setl .cs level ∉ us := by
  induction h with
  | nil => exact List.not_mem_nil
  | byte _ src us _ _ ih => simpa using ih
  | other u us _ hcs _ ih => exact List.not_mem_cons_of_ne_of_not_mem (hcs level).symm ih

/-- A transfer stands directly after a `SETL` of `DC`. -/
theorem setl_before (h : SendsPaired c us) {k : Nat} {src : ByteSrc} (hk : us[k]? = some (.xfer src)) :
    ∃ j level, k = j + 1 ∧ us[j]? = some (.setl .dc level) := by
  induction h generalizing k with
  | nil => cases hk
  | byte level src' us _ _ ih =>
    match k, hk with
    | 1, _ => exact ⟨0, level, rfl, rfl⟩
    | k + 2, hk => obtain ⟨j, level', rfl, hj⟩ := ih hk; exact ⟨j + 2, level', rfl, hj⟩
  | other u us hx _ _ ih =>
    match k, hk with
    | 0, hk => cases hk; cases hx
    | k + 1, hk => obtain ⟨j, level, rfl, hj⟩ := ih hk; exact ⟨j + 1, level, rfl, hj⟩

/-- The data bytes of a frame. -/
theorem data {l : List ByteSrc} (h : ∀ src ∈ l, src.wf c = true) : SendsPaired c (l.flatMap dat) := by
  induction l with
  | nil => exact .nil
  | cons src l ih =>
    obtain ⟨hw, hl⟩ := List.forall_mem_cons.mp h
    exact .byte true src _ hw (ih hl)

/-- A frame whose data bytes exist. -/
theorem frame {o : Byte} {l : List ByteSrc} (h : ∀ src ∈ l, src.wf c = true) : SendsPaired c (frame o l) :=
  .byte false _ _ rfl (data h)

/-- A frame whose data bytes are constants. -/
theorem constants {o : Byte} (bytes : List Byte) : SendsPaired c (Machine.frame o (bytes.map .imm)) :=
  frame fun src hs => by obtain ⟨b, -, rfl⟩ := List.mem_map.mp hs; rfl

/-- Micro-ops that neither transfer nor drive `CS`. -/
theorem quiet (h : ∀ u ∈ us, isTransfer u = false ∧ ∀ level, u ≠ .setl .cs level) : SendsPaired c us := by
  induction us with
  | nil => exact .nil
  | cons u us ih =>
    obtain ⟨⟨hx, hcs⟩, hus⟩ := List.forall_mem_cons.mp h
    exact .other u us hx hcs (ih hus)

theorem waiti : SendsPaired c [.waiti] := quiet (by simp [isTransfer])
theorem endOp : SendsPaired c [.endOp] := quiet (by simp [isTransfer])
theorem setps (x : RestState) : SendsPaired c [.setps x] := quiet (by simp [isTransfer])
theorem resetSeq : SendsPaired c resetSeq := quiet (by simp [Machine.resetSeq, isTransfer])

theorem lut (t : BitVec 3) : SendsPaired c (frameLut c t) :=
  frame fun src hs => by obtain ⟨i, -, rfl⟩ := List.mem_map.mp hs; rfl

theorem red (fill : RedFill) : SendsPaired c (frameWriteRamRed c fill) := frame (redFill_wf c fill)
theorem black (fill : BlackFill) : SendsPaired c (frameWriteRamBlack c fill) := frame (blackFill_wf c fill)

theorem actSeq : SendsPaired c (actSeq c) := ((constants [c.duc2Flag]).append (constants [])).append waiti

theorem initSeq : SendsPaired c (initSeq c) :=
  (resetSeq.append waiti).append ((constants []).append waiti) |>.append (constants [_, _, _]) |>.append (constants [_])
    |>.append (constants [_, _]) |>.append (constants [_, _, _, _]) |>.append (constants [_]) |>.append (constants [_])
    |>.append (constants c.duc1Data) |>.append ((constants [_]).append (constants [_, _])) |>.append waiti |>.append (setps .idle)

theorem frameSeq (mode : UpdateMode) (full hl : Bool) : SendsPaired c (frameSeq c mode full hl) := by
  have red : SendsPaired c (if sendsRed mode then redPass c full hl else []) := by
    split
    · exact red _
    · exact .nil
  have black : SendsPaired c (if sendsBlack mode then blackPass c full else []) := by
    split
    · exact black _
    · exact .nil
  exact (red.append black).append actSeq

theorem sleepSeq : SendsPaired c (sleepSeq c) := (constants [0x01#8]).append (quiet (by simp [isTransfer]))

/-- The body of every operation. -/
theorem body {i : Instr} (h : body c i = some us) : SendsPaired c us := by
  cases i with
  | waitIdle => cases h; exact waiti
  | sendCommand o => cases h; exact .byte false _ _ rfl .nil
  | sendData b => cases h; exact .byte true _ _ rfl .nil
  | reset => cases h; exact resetSeq
  | initPanel => cases h; exact initSeq
  | loadLut t => cases h; exact lut t
  | loadLutBw => cases h; exact (lut 0).append (lut 1) |>.append (lut 2) |>.append (lut 3) |>.append (lut 4)
  | loadLutRed => cases h; exact (lut 5).append (lut 6) |>.append (lut 7)
  | displayFrame mode full hl => cases h; exact frameSeq mode full hl
  | sleep => cases h; exact sleepSeq
  | clearToWhite => cases h; exact (black .ones).append (red .zeros) |>.append actSeq
  | showSession alarm => cases h; exact resetSeq.append waiti |>.append (frameSeq .both false alarm) |>.append sleepSeq
  | _ => cases h

end SendsPaired

/-- `Prog` is the program of the operation its word decodes to. -/
theorem prog_eq_some {c : Cfg} {q : Half} {p : List Uop} : prog c q = some p ↔ ∃ i, decode q = .ok i ∧ program c i = some p := by
  unfold prog
  split <;> rename_i hd <;> simp [hd]

/-- A program is a body and then `END`. -/
theorem program_eq_some {c : Cfg} {i : Instr} {p : List Uop} : program c i = some p ↔ ∃ b, body c i = some b ∧ p = b ++ [.endOp] := by
  simp [program, eq_comm]

/-- The instructions with a program are the twelve operations. -/
theorem isOperation_of_program {c : Cfg} {i : Instr} {p : List Uop} (h : program c i = some p) : isOperation i = true := by
  cases i with
  | waitIdle | sendCommand _ | sendData _ | reset | initPanel | loadLut _ | loadLutBw | loadLutRed | displayFrame _ _ _ | sleep
  | clearToWhite | showSession _ => rfl
  | _ => cases h

theorem SendsPaired.program {c : Cfg} {i : Instr} {p : List Uop} (h : program c i = some p) : SendsPaired c p := by
  obtain ⟨b, hb, rfl⟩ := program_eq_some.mp h
  exact (SendsPaired.body hb).append .endOp

theorem SendsPaired.prog {c : Cfg} {q : Half} {p : List Uop} (h : prog c q = some p) : SendsPaired c p := by
  obtain ⟨i, -, hi⟩ := prog_eq_some.mp h
  exact .program hi

/-- Settles O37: a program is built from frames whose sources exist. -/
theorem programsStayInsideThePlane : Obligations.ProgramsStayInsideThePlane :=
  fun _ _ _ _ hp hm => (SendsPaired.prog hp).wf_of_mem hm

/-- Settles O38: a program is built from pairs of a `SETL` of `DC` and a transfer, and of micro-ops that are neither. -/
theorem everyTransferFollowsItsDataCommandLine : Obligations.EveryTransferFollowsItsDataCommandLine :=
  fun _ _ _ hp => ⟨fun _ _ hk => (SendsPaired.prog hp).setl_before hk, (SendsPaired.prog hp).not_mem_cs⟩

/-! Lengths. -/

/-- The length of `DISPLAY_FRAME`, by its mode. -/
theorem length_program_displayFrame (c : Cfg) (mode : UpdateMode) (full hl : Bool) :
    ∃ p, program c (.displayFrame mode full hl) = some p ∧
      p.length = (if mode = .both then 4 * c.n + 12 else 2 * c.n + 10) := by
  refine ⟨_, rfl, ?_⟩
  cases mode with
  | both | blackOnly | redOnly =>
    simp [frameSeq, sendsRed, sendsBlack, redPass, blackPass, frameWriteRamRed, frameWriteRamBlack, actSeq, frameUpdateCtrl2,
      frameActivate]
    omega

/-- Settles O32: the lengths are the sums of those of the frames. -/
theorem programsHaveTheStatedLengths : Obligations.ProgramsHaveTheStatedLengths := by
  intro c lengthIs
  have lut : ∀ t, (frameLut c t).length = 32 := fun t => by simp [frameLut]
  refine ⟨⟨_, rfl, rfl⟩, fun o => ⟨_, rfl, rfl⟩, fun b => ⟨_, rfl, rfl⟩, ⟨_, rfl, rfl⟩, ⟨_, rfl, ?init⟩, fun t => ⟨_, rfl, ?lut⟩,
    ⟨_, rfl, ?bw⟩, ⟨_, rfl, ?red⟩, fun full hl => ⟨length_program_displayFrame c .both full hl,
      length_program_displayFrame c .blackOnly full hl, length_program_displayFrame c .redOnly full hl⟩, ⟨_, rfl, rfl⟩,
    ⟨_, rfl, ?clear⟩, fun alarm => ⟨_, rfl, ?session⟩⟩
  case init =>
    simp [initSeq, resetSeq, frameSwreset, frameDriverOutput, frameDataEntry, frameRamXWindow, frameRamYWindow, frameBorder,
      frameTempSensor, frameUpdateCtrl1, frameRamXCounter, frameRamYCounter]
    omega
  case lut | bw | red => simp [lut]
  case clear =>
    simp [clearSeq, frameWriteRamBlack, frameWriteRamRed, actSeq, frameUpdateCtrl2, frameActivate]; omega
  case session =>
    simp [showSeq, resetSeq, frameSeq, sendsRed, sendsBlack, redPass, blackPass, frameWriteRamRed, frameWriteRamBlack, actSeq,
      frameUpdateCtrl2, frameActivate, sleepSeq, frameDeepSleep]
    omega

/-- A program is short enough that `SEQ` never wraps (10_state.md R21). -/
theorem length_program_le {c : Cfg} (hw : c.wf = true) {i : Instr} {p : List Uop} (h : program c i = some p) : p.length ≤ 2 ^ 32 := by
  obtain ⟨h1, h2, h3, h4, h5, h6, h7, h8, h9, h10, h11, h12⟩ := programsHaveTheStatedLengths c
  have hn := n_le hw
  have hd : 60 + 2 * c.duc1Data.length ≤ 2 ^ 32 := by obtain ⟨_, _, _, _, _, _, hd, _⟩ := (wf_iff c).mp hw; exact hd
  have le : ∀ {n}, (∃ p, program c i = some p ∧ p.length = n) → n ≤ 2 ^ 32 → p.length ≤ 2 ^ 32 := by
    rintro n ⟨p', hp', rfl⟩ hn
    exact Option.some.inj (h.symm.trans hp') ▸ hn
  cases i with
  | waitIdle => exact le h1 (by norm_num)
  | sendCommand o => exact le (h2 o) (by norm_num)
  | sendData b => exact le (h3 b) (by norm_num)
  | reset => exact le h4 (by norm_num)
  | initPanel => exact le h5 hd
  | loadLut t => exact le (h6 t) (by norm_num)
  | loadLutBw => exact le h7 (by norm_num)
  | loadLutRed => exact le h8 (by norm_num)
  | displayFrame mode full hl => exact le (length_program_displayFrame c mode full hl) (by split <;> omega)
  | sleep => exact le h10 (by norm_num)
  | clearToWhite => exact le h11 (by omega)
  | showSession alarm => exact le (h12 alarm) (by omega)
  | _ => cases h

/-! Waits, delays and panel states. -/

/-- A micro-op that is neither a `SETL` nor a transfer is in no frame. -/
theorem filterMap_frame {α : Type} {f : Uop → Option α} (hs : ∀ level, f (.setl .dc level) = none) (hx : ∀ src, f (.xfer src) = none)
    (o : Byte) (l : List ByteSrc) : (frame o l).filterMap f = [] := by
  refine List.filterMap_eq_nil_iff.mpr fun u hu => ?_
  obtain ⟨level, rfl⟩ | rfl | ⟨src, -, rfl⟩ := mem_frame hu
  · exact hs level
  · exact hx _
  · exact hx src

/-- A frame has no delay. -/
@[simp] theorem filterMap_delayOf_frame (o : Byte) (l : List ByteSrc) : (frame o l).filterMap delayOf = [] :=
  filterMap_frame (fun _ => rfl) (fun _ => rfl) o l

/-- A frame has no `SETPS`. -/
@[simp] theorem filterMap_storedState_frame (o : Byte) (l : List ByteSrc) : (frame o l).filterMap storedState = [] :=
  filterMap_frame (fun _ => rfl) (fun _ => rfl) o l

/-- A frame has no `END`. -/
@[simp] theorem endOp_not_mem_frame (o : Byte) (l : List ByteSrc) : Uop.endOp ∉ frame o l := by
  intro h
  obtain ⟨level, h⟩ | h | ⟨src, -, h⟩ := mem_frame h <;> cases h

/-- Micro-ops without `END`, with the stated number of waits, the stated delays and the stated panel states. -/
structure Holds (us : List Uop) (waits : Nat) (delays : List Nat) (states : List RestState) : Prop where
  noEnd : Uop.endOp ∉ us
  waits : us.countP (fun u => decide (u = .waiti)) = waits
  delays : us.filterMap delayOf = delays
  states : us.filterMap storedState = states

namespace Holds

theorem append {us vs : List Uop} {w w' : Nat} {d d' : List Nat} {x x' : List RestState} (hu : Holds us w d x)
    (hv : Holds vs w' d' x') : Holds (us ++ vs) (w + w') (d ++ d') (x ++ x') where
  noEnd h := (List.mem_append.mp h).elim hu.noEnd hv.noEnd
  waits := by rw [List.countP_append, hu.waits, hv.waits]
  delays := by rw [List.filterMap_append, hu.delays, hv.delays]
  states := by rw [List.filterMap_append, hu.states, hv.states]

theorem frame (o : Byte) (l : List ByteSrc) : Holds (frame o l) 0 [] [] :=
  ⟨endOp_not_mem_frame o l, countP_frame_wait o l, filterMap_delayOf_frame o l, filterMap_storedState_frame o l⟩

theorem nil : Holds [] 0 [] [] := ⟨List.not_mem_nil, rfl, rfl, rfl⟩
theorem waiti : Holds [.waiti] 1 [] [] := ⟨by simp, rfl, rfl, rfl⟩
theorem resetSeq : Holds resetSeq 0 [200, 200] [.uninit] := ⟨by simp [Machine.resetSeq], rfl, rfl, rfl⟩

theorem actSeq (c : Cfg) : Holds (actSeq c) 1 [] [] := ((frame _ _).append (frame _ _)).append waiti

theorem sleepSeq (c : Cfg) : Holds (sleepSeq c) 0 [100] [.sleeping] :=
  (frame _ _).append (⟨by simp, rfl, rfl, rfl⟩ : Holds [.dly 100, .setps .sleeping] 0 [100] [.sleeping])

theorem frameSeq (c : Cfg) (mode : UpdateMode) (full hl : Bool) : Holds (frameSeq c mode full hl) 1 [] [] := by
  have red : Holds (if sendsRed mode then redPass c full hl else []) 0 [] [] := by
    split
    · exact frame _ _
    · exact nil
  have black : Holds (if sendsBlack mode then blackPass c full else []) 0 [] [] := by
    split
    · exact frame _ _
    · exact nil
  exact (red.append black).append (actSeq c)

theorem initSeq (c : Cfg) : Holds (initSeq c) 3 [200, 200] [.uninit, .idle] :=
  (resetSeq.append waiti).append ((frame _ _).append waiti) |>.append (frame _ _) |>.append (frame _ _) |>.append (frame _ _)
    |>.append (frame _ _) |>.append (frame _ _) |>.append (frame _ _) |>.append (frame _ _)
    |>.append ((frame _ _).append (frame _ _)) |>.append waiti
    |>.append (⟨by simp, rfl, rfl, rfl⟩ : Holds [.setps .idle] 0 [] [.idle])

end Holds

/-- The waits of an operation (41_framing_handshake_reset.md section 2). -/
def waitsOf : Instr → Nat
  | .waitIdle | .displayFrame _ _ _ | .clearToWhite => 1
  | .showSession _ => 2
  | .initPanel => 3
  | _ => 0

/-- The delays of an operation, in order (40_bus_transport.md R102). -/
def delaysOf : Instr → List Nat
  | .reset | .initPanel => [200, 200]
  | .sleep => [100]
  | .showSession _ => [200, 200, 100]
  | _ => []

/-- The panel states an operation stores, in order (41_framing_handshake_reset.md section 3). -/
def statesOf : Instr → List RestState
  | .reset => [.uninit]
  | .initPanel => [.uninit, .idle]
  | .sleep => [.sleeping]
  | .showSession _ => [.uninit, .sleeping]
  | _ => []

/-- What a body holds is what its parts hold together. -/
theorem Holds.body {c : Cfg} {i : Instr} {b : List Uop} (h : body c i = some b) : Holds b (waitsOf i) (delaysOf i) (statesOf i) := by
  have lut : ∀ t, Holds (frameLut c t) 0 [] [] := fun t => .frame _ _
  cases i with
  | waitIdle => cases h; exact .waiti
  | sendCommand o => cases h; exact .frame o []
  | sendData d => cases h; exact ⟨by simp [dat], rfl, rfl, rfl⟩
  | reset => cases h; exact .resetSeq
  | initPanel => cases h; exact .initSeq c
  | loadLut t => cases h; exact lut t
  | loadLutBw => cases h; exact (lut 0).append (lut 1) |>.append (lut 2) |>.append (lut 3) |>.append (lut 4)
  | loadLutRed => cases h; exact (lut 5).append (lut 6) |>.append (lut 7)
  | displayFrame mode full hl => cases h; exact .frameSeq c mode full hl
  | sleep => cases h; exact .sleepSeq c
  | clearToWhite => cases h; exact ((Holds.frame _ _).append (.frame _ _)).append (.actSeq c)
  | showSession alarm => cases h; exact (Holds.resetSeq.append .waiti).append (.frameSeq c .both false alarm) |>.append (.sleepSeq c)
  | _ => cases h

/-- Settles O39: a program is its body and `END`, and holds what the body does. -/
theorem programsHoldTheStatedWaitsAndDelays : Obligations.ProgramsHoldTheStatedWaitsAndDelays := by
  intro c holds
  have of_body : ∀ {i b}, body c i = some b → holds i (waitsOf i) (delaysOf i) (statesOf i) := fun {i b} hb =>
    have ⟨noEnd, waits, delays, states⟩ := Holds.body hb
    ⟨b, program_eq_some.mpr ⟨b, hb, rfl⟩, noEnd, waits, delays, states⟩
  exact ⟨of_body rfl, fun _ => of_body rfl, fun _ => of_body rfl, of_body rfl, of_body rfl, fun _ => of_body rfl, of_body rfl,
    of_body rfl, fun _ _ _ => of_body rfl, of_body rfl, of_body rfl, fun _ => of_body rfl⟩

end Sys2Proof.Machine
end

section
/-! The byte sources of the frames and the bytes they put on the wire (20_memory.md section 1, 30_encoding.md section 2,
44_frame_transfer.md sections 1 to 3). -/

namespace Sys2Proof.Machine
open Sys2Proof

/-! The operand bytes. -/

/-- The low byte. -/
theorem lo8_eq (x : Nat) : lo8 x = BitVec.ofNat 8 (x % 256) := by
  apply BitVec.eq_of_toNat_eq; simp [lo8]

/-- The high byte. -/
theorem hi8_eq (x : Nat) : hi8 x = BitVec.ofNat 8 (x / 256 % 256) := by
  apply BitVec.eq_of_toNat_eq; simp [hi8]

/-- Two bytes carry a value below 65536. -/
theorem lo8_add_hi8 {x : Nat} (h : x < 65536) : (lo8 x).toNat + 256 * (hi8 x).toNat = x := by
  simp only [lo8, hi8, BitVec.toNat_ofNat]; omega

/-- One byte carries the window end. -/
theorem lo8_bw {c : Cfg} (hw : c.wf = true) : (lo8 (c.bw - 1)).toNat + 1 = c.bw := by
  obtain ⟨h1, h2, -⟩ := (wf_iff c).mp hw
  simp only [lo8, Cfg.bw, BitVec.toNat_ofNat]; omega

/-- Settles O41: the bytes of `H - 1` and of the window end, and the frames that carry them. -/
theorem operandBytesAreAssembledAsStated : Obligations.OperandBytesAreAssembledAsStated := by
  constructor
  · intro c hw low high xEnd
    have hlow : lo8 (c.h - 1) = low := lo8_eq _
    have hhigh : hi8 (c.h - 1) = high := hi8_eq _
    obtain ⟨_, _, _, hh, -⟩ := (wf_iff c).mp hw
    refine ⟨?_, lo8_bw hw, ?_, rfl, ?_, ?_⟩
    · rw [← hlow, ← hhigh]; exact lo8_add_hi8 (by omega)
    · rw [frameDriverOutput, hlow, hhigh]; rfl
    · rw [frameRamYWindow, hlow, hhigh]; rfl
    · rw [frameRamYCounter, hlow, hhigh]; rfl
  · intro c hw hh
    rw [Cfg.bw, hw, hh]; decide

/-! The sources of the two passes, with the margin rows as a proposition. -/

/-- The margin constant or the black plane at the shifted row (44_frame_transfer.md R185). -/
theorem blackSrc_eq (c : Cfg) (full : Bool) (r k : Nat) :
    c.blackSrc full r k =
      if c.effMargin full ≠ 0 ∧ (r < c.marginHalf full ∨ c.bottomRow full ≤ r) then .imm 0xFF
      else .fbb ((r - c.marginHalf full) * c.bw + k) := by
  simp only [Cfg.blackSrc, inMargin_iff]; rfl

/-- The margin constant or the complement of the black plane at the shifted row (44_frame_transfer.md R183). -/
theorem redSrc_eq (c : Cfg) (full hl : Bool) (r k : Nat) :
    c.redSrc full hl r k =
      if c.effMargin full ≠ 0 ∧ (r < c.marginHalf full ∨ c.bottomRow full ≤ r) then .imm (if hl then 0xFF else 0x00)
      else .fbbn ((r - c.redShift full) * c.bw + k) := by
  simp only [Cfg.redSrc, inMargin_iff]; rfl

/-- Two positions in rows of `b` bytes are the same exactly where the row and the column are. -/
theorem rowMajor_inj {b y y' k k' : Nat} (hk : k < b) (hk' : k' < b) : y * b + k = y' * b + k' ↔ y = y' ∧ k = k' := by
  constructor
  · intro h
    have row : ∀ y k, k < b → (y * b + k) / b = y := fun y k hk => by
      rw [Nat.mul_comm, Nat.mul_add_div (by omega), Nat.div_eq_of_lt hk, Nat.add_zero]
    have hy : y = y' := (row y k hk).symm.trans ((congrArg (· / b) h).trans (row y' k' hk'))
    subst hy
    exact ⟨rfl, Nat.add_left_cancel h⟩
  · rintro ⟨rfl, rfl⟩; rfl

/-- The column of a pixel lies in the row. -/
theorem column_lt {c : Cfg} {x : Nat} (h : x < c.w) : x / 8 < c.bw := by
  unfold Cfg.bw; omega

/-- Settles O36: the position of a pixel, when two pixels share it, and what the passes have there. -/
theorem pixelsArePackedRowMajor : Obligations.PixelsArePackedRowMajor := by
  intro c x y hx hy bw
  have hk := column_lt hx
  refine ⟨⟨rfl, hk, index_lt (d := 0) hy hk⟩, fun x' y' hx' _ => rowMajor_inj hk (column_lt hx'), fun full hl => ⟨?black, ?red⟩⟩
  case black => exact (getElem?_passSrcs _ hy hk).trans (congrArg some (blackSrc_eq c full y (x / 8)))
  case red => exact (getElem?_passSrcs _ hy hk).trans (congrArg some (redSrc_eq c full hl y (x / 8)))

/-! The bytes on the wire where nothing is raced. -/

/-- A list in row-major order (44_frame_transfer.md R182, R184). -/
def rowMajor {α : Type} (c : Cfg) (f : Nat → Nat → α) : List α :=
  (List.range c.h).flatMap fun r => (List.range c.bw).map fun k => f r k

/-- A function of every entry. -/
theorem map_rowMajor {α β : Type} (c : Cfg) (f : Nat → Nat → α) (g : α → β) :
    (rowMajor c f).map g = rowMajor c fun r k => g (f r k) := by
  simp [rowMajor, List.map_flatMap, Function.comp_def]

/-- A list for every entry. -/
theorem flatMap_rowMajor {α β : Type} (c : Cfg) (f : Nat → Nat → α) (g : α → List β) :
    (rowMajor c f).flatMap g = (List.range c.h).flatMap fun r => (List.range c.bw).flatMap fun k => g (f r k) := by
  simp [rowMajor, List.flatMap_assoc, List.flatMap_map]

/-- The bytes of the red pass. -/
def State.redBytes (s : State) (full hl : Bool) : List Byte :=
  rowMajor s.cfg fun r k =>
    if s.cfg.effMargin full ≠ 0 ∧ (r < s.cfg.marginHalf full ∨ s.cfg.bottomRow full ≤ r) then (if hl then 0xFF else 0x00)
    else 255 - s.planeByte .black ((r - s.cfg.redShift full) * s.cfg.bw + k)

/-- The bytes of the black pass. -/
def State.blackBytes (s : State) (full : Bool) : List Byte :=
  rowMajor s.cfg fun r k =>
    if s.cfg.effMargin full ≠ 0 ∧ (r < s.cfg.marginHalf full ∨ s.cfg.bottomRow full ≤ r) then 0xFF
    else s.planeByte .black ((r - s.cfg.marginHalf full) * s.cfg.bw + k)

section
variable (s : State)

/-- Constants are sent as they are. -/
@[simp] theorem map_wireByte_imm (bytes : List Byte) : (bytes.map ByteSrc.imm).map s.wireByte = bytes := by
  simp [Function.comp_def, State.wireByte]

theorem map_wireByte_red (full hl : Bool) : (s.cfg.redFill (.picture full hl)).map s.wireByte = s.redBytes full hl := by
  refine (map_rowMajor s.cfg _ _).trans (congrArg (rowMajor s.cfg) (funext₂ fun r k => ?_))
  rw [redSrc_eq, apply_ite s.wireByte]; rfl

theorem map_wireByte_black (full : Bool) : (s.cfg.blackFill (.picture full)).map s.wireByte = s.blackBytes full := by
  refine (map_rowMajor s.cfg _ _).trans (congrArg (rowMajor s.cfg) (funext₂ fun r k => ?_))
  rw [blackSrc_eq, apply_ite s.wireByte]; rfl

theorem map_wireByte_zeros : (s.cfg.redFill .zeros).map s.wireByte = List.replicate s.cfg.n 0x00 := List.map_replicate

theorem map_wireByte_ones : (s.cfg.blackFill .ones).map s.wireByte = List.replicate s.cfg.n 0xFF := List.map_replicate

/-- The bytes of a LUT frame are those of its table, in order (43_lut_upload.md R161). -/
theorem map_wireByte_lut (t : BitVec 3) : (lutSrcs t).map s.wireByte = (s.cfg.lut.get t.toFin).toList := by
  apply List.ext_getElem
  · simp
  · intro k _ _; simp [lutSrcs, State.wireByte, Cfg.lutByte, Vector.get]; rfl

end

/-! The events of the programs. -/

section
variable {s : State} {us vs : List Uop} {es fs : List Event}

/-- The events of micro-ops whose transfers do not fault and whose waits are answered idle at once. -/
def State.Emits (s : State) (us : List Uop) (es : List Event) : Prop := us.flatMap s.uopEvents = es

namespace State.Emits

theorem append (hu : s.Emits us es) (hv : s.Emits vs fs) : s.Emits (us ++ vs) (es ++ fs) := by
  rw [State.Emits, List.flatMap_append, hu, hv]

/-- `SETPS` and `END` emit nothing. -/
theorem append_silent (hu : s.Emits us es) (hv : s.Emits vs []) : s.Emits (us ++ vs) es := by
  simpa using append hu hv

theorem waiti : s.Emits [.waiti] [.S s.cfg.busyIdleLevel] := rfl

theorem data (l : List ByteSrc) : s.Emits (l.flatMap dat) ((l.map s.wireByte).flatMap (dataEvents s.cfg)) := by
  induction l with
  | nil => rfl
  | cons src l ih => exact append (show s.Emits (dat src) (dataEvents s.cfg (s.wireByte src)) from rfl) ih

/-- A frame emits its command byte and then the bytes of its sources (30_encoding.md R74). -/
theorem frame {o : Byte} {l : List ByteSrc} {bytes : List Byte} (h : l.map s.wireByte = bytes) :
    s.Emits (frame o l) (commandEvents s.cfg o ++ bytes.flatMap (dataEvents s.cfg)) :=
  h ▸ append (show s.Emits (cmd o) (commandEvents s.cfg o) from rfl) (data l)

/-- A frame of constants. -/
theorem constants (o : Byte) (bytes : List Byte) :
    s.Emits (Machine.frame o (bytes.map .imm)) (commandEvents s.cfg o ++ bytes.flatMap (dataEvents s.cfg)) :=
  frame (map_wireByte_imm s bytes)

theorem lut (t : BitVec 3) :
    s.Emits (frameLut s.cfg t) (commandEvents s.cfg (s.cfg.lutOpcode t) ++ (s.cfg.lut.get t.toFin).toList.flatMap (dataEvents s.cfg)) :=
  frame (map_wireByte_lut s t)

theorem resetSeq : s.Emits resetSeq [.L .rst false, .T 200, .L .rst true, .T 200] := rfl

theorem actSeq : s.Emits (actSeq s.cfg)
    (commandEvents s.cfg s.cfg.opcUpdateCtrl2 ++ dataEvents s.cfg s.cfg.duc2Flag ++ commandEvents s.cfg s.cfg.opcActivate
      ++ [.S s.cfg.busyIdleLevel]) := by
  have h := ((constants (s := s) s.cfg.opcUpdateCtrl2 [s.cfg.duc2Flag]).append (constants s.cfg.opcActivate [])).append waiti
  exact h.trans (by simp)

theorem sleepSeq : s.Emits (sleepSeq s.cfg) (commandEvents s.cfg s.cfg.opcDeepSleep ++ dataEvents s.cfg 0x01 ++ [.T 100]) := rfl

theorem red (full hl : Bool) : s.Emits (redPass s.cfg full hl)
    (commandEvents s.cfg s.cfg.opcWriteRamRed ++ (s.redBytes full hl).flatMap (dataEvents s.cfg)) := frame (map_wireByte_red s full hl)

theorem black (full : Bool) : s.Emits (blackPass s.cfg full)
    (commandEvents s.cfg s.cfg.opcWriteRamBlack ++ (s.blackBytes full).flatMap (dataEvents s.cfg)) := frame (map_wireByte_black s full)

end State.Emits

end

/-- Settles O40: the events of a program are those of its frames, waits and delays in order. -/
theorem operationTracesAreTheDocumentedOnes : Obligations.OperationTracesAreTheDocumentedOnes := by
  intro s c emits C D idle low high bw pulse lut margin half bottom rowMajor red black activation deepSleep
  have of_body : ∀ {i us es}, body c i = some us → s.Emits us es → emits i es := fun {i us es} hb h =>
    ⟨_, program_eq_some.mpr ⟨us, hb, rfl⟩, h.append_silent (vs := [.endOp]) rfl⟩
  have hc : s.cfg = c := rfl
  have hlow : lo8 (c.h - 1) = low := lo8_eq _
  have hhigh : hi8 (c.h - 1) = high := rfl
  have hend : lo8 (c.bw - 1) = BitVec.ofNat 8 (bw - 1) := rfl
  have hlut : ∀ t : BitVec 3, s.Emits (frameLut c t) (lut t.toFin) := fun t => .lut t
  have hred : ∀ full hl, s.Emits (redPass c full hl) (red full hl) := fun full hl => by
    have h := State.Emits.red (s := s) full hl
    rw [State.redBytes, flatMap_rowMajor] at h; exact h
  have hblack : ∀ full, s.Emits (blackPass c full) (black full) := fun full => by
    have h := State.Emits.black (s := s) full
    rw [State.blackBytes, flatMap_rowMajor] at h; exact h
  have hact : s.Emits (actSeq c) activation := .actSeq
  have hboth : ∀ full hl, s.Emits (frameSeq c .both full hl) (red full hl ++ black full ++ activation) := fun full hl =>
    ((hred full hl).append (hblack full)).append hact
  have hredOnly : ∀ full hl, s.Emits (frameSeq c .redOnly full hl) (red full hl ++ activation) := fun full hl =>
    ((hred full hl).append_silent (vs := []) rfl).append hact
  have hinit : s.Emits (initSeq c) _ := ((State.Emits.resetSeq.append .waiti).append ((State.Emits.constants c.opcSwreset []).append .waiti))
    |>.append (.constants c.opcDriverOutput [lo8 (c.h - 1), hi8 (c.h - 1), c.docMode]) |>.append (.constants c.opcDataEntry [c.demData])
    |>.append (.constants c.opcRamXWindow [0x00, lo8 (c.bw - 1)])
    |>.append (.constants c.opcRamYWindow [0x00, 0x00, lo8 (c.h - 1), hi8 (c.h - 1)])
    |>.append (.constants c.opcBorder [c.borderData]) |>.append (.constants c.opcTempSensor [c.tempData])
    |>.append (.constants c.opcUpdateCtrl1 c.duc1Data)
    |>.append ((State.Emits.constants c.opcRamXCounter [0x00]).append (.constants c.opcRamYCounter [lo8 (c.h - 1), hi8 (c.h - 1)]))
    |>.append .waiti |>.append_silent (vs := [.setps .idle]) rfl
  have hclear : s.Emits (clearSeq c) _ :=
    ((State.Emits.frame (map_wireByte_ones s)).append (.frame (map_wireByte_zeros s))).append hact
  refine ⟨of_body rfl .waiti, fun o => of_body (us := cmd o) rfl rfl, fun b => of_body (us := dat (.imm b)) rfl rfl, of_body rfl .resetSeq,
    of_body rfl ?init, fun t => of_body rfl (hlut t),
    of_body rfl ((hlut 0).append (hlut 1) |>.append (hlut 2) |>.append (hlut 3) |>.append (hlut 4)),
    of_body rfl ((hlut 5).append (hlut 6) |>.append (hlut 7)), fun full hl => ⟨of_body rfl (hboth full hl),
      of_body (us := blackPass c full ++ actSeq c) rfl ((hblack full).append hact), of_body rfl (hredOnly full hl)⟩,
    of_body rfl .sleepSeq, of_body rfl ?clear, fun alarm => of_body (us := showSeq c alarm) rfl ?session⟩
  case init => exact hinit.trans (by simp [hc, pulse, idle, C, D, hlow, hhigh, hend])
  case clear => exact hclear.trans (by simp [hc, C, D, Cfg.n, Cfg.bw, bw])
  case session =>
    exact (((State.Emits.resetSeq.append .waiti).append (hboth false alarm)).append .sleepSeq).trans
      (by simp [hc, pulse, idle, deepSleep, C, D])

end Sys2Proof.Machine
end

section
/-! What a micro-op does to the state, said once: what it keeps whatever it is, and its four kinds of effect (30_encoding.md section 3,
60_exceptions.md section 4). -/

namespace Sys2Proof.Machine
open Sys2Proof

/-- What no micro-op changes: the configuration, `OPR`, `REJ`, both planes with the bytes noted as raced, and what the host does. -/
structure State.Keeps (s t : State) : Prop where
  cfg : t.cfg = s.cfg
  opr : t.opr = s.opr
  rej : t.rej = s.rej
  sched : t.sched = s.sched
  hostReads : t.hostReads = s.hostReads
  raced : t.raced = s.raced
  fbBlack : t.fbBlack = s.fbBlack
  fbRed : t.fbRed = s.fbRed
  resets : t.resets = s.resets

namespace State.Keeps
variable {s t u : State}

theorem refl (s : State) : s.Keeps s := ⟨rfl, rfl, rfl, rfl, rfl, rfl, rfl, rfl, rfl⟩

theorem trans (h : s.Keeps t) (h' : t.Keeps u) : s.Keeps u :=
  ⟨h'.cfg.trans h.cfg, h'.opr.trans h.opr, h'.rej.trans h.rej, h'.sched.trans h.sched, h'.hostReads.trans h.hostReads,
    h'.raced.trans h.raced, h'.fbBlack.trans h.fbBlack, h'.fbRed.trans h.fbRed, h'.resets.trans h.resets⟩

/-- Both planes read as before. -/
theorem planeByte (h : s.Keeps t) (pl : Plane) (a : Nat) : t.planeByte pl a = s.planeByte pl a := by
  cases pl <;> simp only [State.planeByte, State.plane, h.fbBlack, h.fbRed, h.resets]

/-- The operation in progress stays. -/
theorem program (h : s.Keeps t) : t.program = s.program := by
  rw [State.program, h.cfg, h.opr, State.program]

end State.Keeps

/-- No micro-op changes what `State.Keeps` lists. -/
theorem runUop_keeps {u : Uop} {s t : State} (h : runUop u s = .next t) : s.Keeps t := by
  obtain ⟨line, level, rfl, rfl⟩ | ⟨ms, rfl, rfl⟩ | ⟨src, rfl, -, -, rfl⟩ | ⟨src, rfl, -, -, rfl⟩ | ⟨rfl, -, rfl⟩ | ⟨rfl, -, rfl⟩ |
    ⟨x, rfl, rfl⟩ | ⟨rfl, rfl⟩ := runUop_next_cases h
  · constructor <;> simp
  · constructor <;> simp
  · constructor <;> simp [State.sendByte]
  · constructor <;> simp [State.sendFault]
  · constructor <;> simp
  · cases hout : s.sampled.timesOut with
    | true => rw [waitBusy_of_timesOut hout]; constructor <;> simp
    | false => rw [waitBusy_of_below hout]; constructor <;> simp
  · constructor <;> simp
  · constructor <;> rfl

/-- The effects of a micro-op on the registers of the engine. -/
inductive UopEffect (u : Uop) (s t : State) : Prop
  /-- It is done, and `SEQ` advances. -/
  | advanced (notEnd : u ≠ .endOp) (seq : t.seq = s.seq + 1) (run : t.run = s.run) (err : t.err = s.err)
      (rstL : (∀ level, u ≠ .setl .rst level) → t.rstL = s.rstL)
      (ps : (∃ x, u = .setps x ∧ t.ps = panelStateOf x) ∨ ((∀ x, u ≠ .setps x) ∧ t.ps = s.ps))
      (noWait : u ≠ .waiti → t.polls = s.polls ∧ t.pollWraps = s.pollWraps ∧ t.lastBusy = s.lastBusy)
      (wait : u = .waiti → t.busySamples = 0 ∧ t.lastBusy = false)
  /-- A wait has seen a busy sample below its bound. -/
  | sampledBusy (wait : u = .waiti) (seq : t.seq = s.seq) (run : t.run = s.run) (err : t.err = s.err) (rstL : t.rstL = s.rstL)
      (ps : t.ps = s.ps) (lastBusy : t.lastBusy = true) (samples : t.busySamples = s.busySamples + 1) (below : s.timesOut = false)
  /-- It has aborted the operation. -/
  | aborted (kind : u = .waiti ∨ ∃ src, u = .xfer src) (seq : t.seq = s.seq) (run : t.run = false) (err : t.err ≠ .none)
      (rstL : t.rstL = s.rstL) (ps : t.ps = .fault) (polls : t.polls = s.polls) (pollWraps : t.pollWraps = s.pollWraps)
      (lastBusy : t.lastBusy = false)
  /-- It has ended the operation. -/
  | ended (isEnd : u = .endOp) (eq : t = { s with run := false })

/-- A micro-op has one of the four effects. -/
theorem runUop_effect {u : Uop} {s t : State} (h : runUop u s = .next t) : UopEffect u s t := by
  obtain ⟨line, level, rfl, rfl⟩ | ⟨ms, rfl, rfl⟩ | ⟨src, rfl, -, -, rfl⟩ | ⟨src, rfl, -, -, rfl⟩ | ⟨rfl, -, rfl⟩ | ⟨rfl, -, rfl⟩ |
    ⟨x, rfl, rfl⟩ | ⟨rfl, rfl⟩ := runUop_next_cases h
  · refine .advanced (by simp) (by simp) (by simp) (by simp) (fun hr => ?_) (by simp) (by simp) (by simp)
    have hl : line ≠ .rst := fun hl => hr level (hl ▸ rfl)
    simp [hl]
  · apply UopEffect.advanced <;> simp
  · apply UopEffect.advanced <;> simp [State.sendByte]
  · apply UopEffect.aborted <;> simp [State.sendFault, State.busFaultCode_ne]
  · apply UopEffect.advanced <;> simp
  · cases hout : s.sampled.timesOut with
    | true => rw [waitBusy_of_timesOut hout]; apply UopEffect.aborted <;> simp
    | false =>
      rw [waitBusy_of_below hout]
      exact .sampledBusy rfl rfl rfl rfl rfl rfl rfl (State.countSample_busySamples s.sampled) hout
  · apply UopEffect.advanced <;> simp
  · exact .ended rfl rfl

/-- A micro-op only appends events. -/
theorem runUop_trace {u : Uop} {s t : State} (h : runUop u s = .next t) : ∃ es, t.trace = s.trace ++ es := by
  obtain ⟨line, level, rfl, rfl⟩ | ⟨ms, rfl, rfl⟩ | ⟨src, rfl, -, -, rfl⟩ | ⟨src, rfl, -, -, rfl⟩ | ⟨rfl, -, rfl⟩ | ⟨rfl, -, rfl⟩ |
    ⟨x, rfl, rfl⟩ | ⟨rfl, rfl⟩ := runUop_next_cases h
  · exact ⟨_, State.drive_trace s line level⟩
  · exact ⟨_, rfl⟩
  · exact ⟨_, sendByte_trace s.askedBus src⟩
  · rw [sendFault_eq]; exact ⟨_, rfl⟩
  · exact ⟨_, rfl⟩
  · unfold State.waitBusy; split <;> exact ⟨_, rfl⟩
  · exact ⟨[], (List.append_nil _).symm⟩
  · exact ⟨[], (List.append_nil _).symm⟩

/-- A micro-op that does not drive `CS` leaves it released. -/
theorem runUop_released {u : Uop} {s t : State} (h : runUop u s = .next t) (hu : ∀ level, u ≠ .setl .cs level)
    (hs : s.csL = !s.cfg.csAssertLevel) : t.csL = !t.cfg.csAssertLevel := by
  obtain ⟨line, level, rfl, rfl⟩ | ⟨ms, rfl, rfl⟩ | ⟨src, rfl, -, -, rfl⟩ | ⟨src, rfl, -, -, rfl⟩ | ⟨rfl, -, rfl⟩ | ⟨rfl, -, rfl⟩ |
    ⟨x, rfl, rfl⟩ | ⟨rfl, rfl⟩ := runUop_next_cases h
  · have hl : line ≠ .cs := fun hl => hu level (hl ▸ rfl)
    simp [hl, hs]
  · exact hs
  · simp [State.sendByte]
  · simp [State.sendFault]
  · exact hs
  · unfold State.waitBusy; split <;> exact hs
  · exact hs
  · exact hs

/-- A micro-op whose transfer names a byte that exists answers a next state. -/
theorem runUop_next_of_wf {u : Uop} {s : State} (hw : ∀ src, u = .xfer src → src.wf s.cfg = true) : ∃ t, runUop u s = .next t := by
  cases u with
  | xfer src =>
    cases hb : s.busAnswer with
    | ok => exact ⟨_, runUop_xfer_of_ok (hw src rfl) hb⟩
    | fault => exact ⟨_, runUop_xfer_of_fault (hw src rfl) hb⟩
  | waiti =>
    by_cases hb : s.busyLevel = s.cfg.busyIdleLevel
    · exact ⟨_, runUop_waiti_of_idle hb⟩
    · exact ⟨_, runUop_waiti_of_busy (Bool.eq_not_of_ne hb)⟩
  | setl _ _ | dly _ | setps _ | endOp => exact ⟨_, rfl⟩

/-- Nor does a list of micro-ops change what each keeps. -/
theorem runUops_keeps {us : List Uop} {s t : State} (h : runUops us s = .next t) : s.Keeps t := by
  induction us generalizing s with
  | nil => cases h; exact .refl _
  | cons u us ih =>
    simp only [runUops] at h
    split at h
    · split at h
      · rename_i s' hu; exact (runUop_keeps hu).trans (ih h)
      all_goals cases h
    · cases h; exact .refl _

/-- The verdict on a request keeps both planes. -/
theorem request_planeByte (s : State) (i : Instr) (pl : Plane) (a : Nat) : (s.request i).planeByte pl a = s.planeByte pl a := by
  unfold State.request
  split
  · cases pl <;> rfl
  · split <;> cases pl <;> rfl

/-- Settles O49: a request writes registers alone, and every other instruction is micro-ops. -/
theorem noInstructionWritesMemory : Obligations.NoInstructionWritesMemory := by
  intro i s t h pl a
  obtain hop | ⟨x, rfl⟩ | ⟨us, hus⟩ | ⟨u, rfl⟩ := instr_kind s.cfg i
  · rw [exec_operation hop] at h; cases h; exact request_planeByte s i pl a
  · rw [exec_reservedOp] at h; cases h; cases pl <;> rfl
  · rw [(exec_frame hus).1] at h; exact (runUops_keeps h).planeByte pl a
  · rw [exec_instr] at h; exact (runUop_keeps h).planeByte pl a

/-- What the micro-ops of a frame leave: the reset line and the count of samples, and but for an abort the panel state, `RUN`, `ERR` and
`LASTBUSY`. -/
structure State.SendsOrAborts (s t : State) : Prop where
  rstL : t.rstL = s.rstL
  polls : t.polls = s.polls
  pollWraps : t.pollWraps = s.pollWraps
  rest : (t.ps = s.ps ∧ t.run = s.run ∧ t.err = s.err ∧ t.lastBusy = s.lastBusy) ∨ (t.ps = .fault ∧ t.run = false ∧ t.err ≠ .none)

theorem State.SendsOrAborts.trans {s t u : State} (h : s.SendsOrAborts t) (h' : t.SendsOrAborts u) : s.SendsOrAborts u where
  rstL := h'.rstL.trans h.rstL
  polls := h'.polls.trans h.polls
  pollWraps := h'.pollWraps.trans h.pollWraps
  rest := by
    obtain ⟨hps, hrun, herr, hlast⟩ | habort := h'.rest
    · rw [hps, hrun, herr, hlast]; exact h.rest
    · exact .inr habort

/-- A micro-op of a frame. -/
theorem runUop_sendsOrAborts {u : Uop} {s t : State} (hu : (∃ level, u = .setl .dc level) ∨ ∃ src, u = .xfer src)
    (h : runUop u s = .next t) : s.SendsOrAborts t := by
  have hkind : u ≠ .waiti ∧ u ≠ .endOp ∧ (∀ x, u ≠ .setps x) ∧ ∀ level, u ≠ .setl .rst level := by
    obtain ⟨level, rfl⟩ | ⟨src, rfl⟩ := hu <;> simp
  obtain ⟨hwait, hend, hset, hrst⟩ := hkind
  obtain ⟨-, -, hrun, herr, hr, hps, hpolls, -⟩ | ⟨hw, -⟩ | ⟨-, -, hrun, herr, hr, hps, hp, hpw, -⟩ | ⟨he, -⟩ := runUop_effect h
  · obtain ⟨hp, hpw, hlast⟩ := hpolls hwait
    obtain ⟨x, hx, -⟩ | ⟨-, hps⟩ := hps
    · exact absurd hx (hset x)
    · exact ⟨hr hrst, hp, hpw, .inl ⟨hps, hrun, herr, hlast⟩⟩
  · exact absurd hw hwait
  · exact ⟨hr, hp, hpw, .inr ⟨hps, hrun, herr⟩⟩
  · exact absurd he hend

/-- The micro-ops of a frame, one after another. -/
theorem runUops_sendsOrAborts {us : List Uop} {s t : State}
    (hus : ∀ u ∈ us, (∃ level, u = .setl .dc level) ∨ ∃ src, u = .xfer src) (h : runUops us s = .next t) : s.SendsOrAborts t := by
  induction us generalizing s with
  | nil => cases h; exact ⟨rfl, rfl, rfl, .inl ⟨rfl, rfl, rfl, rfl⟩⟩
  | cons u us ih =>
    obtain ⟨hu, hus⟩ := List.forall_mem_cons.mp hus
    simp only [runUops] at h
    split at h
    · split at h
      · rename_i s' hu'; exact (runUop_sendsOrAborts hu hu').trans (ih hus h)
      all_goals cases h
    · cases h; exact ⟨rfl, rfl, rfl, .inl ⟨rfl, rfl, rfl, rfl⟩⟩

/-- A frame is made of `SETL` of `DC` and transfers. -/
theorem frame_kind {o : Byte} {l : List ByteSrc} : ∀ u ∈ frame o l, (∃ level, u = .setl .dc level) ∨ ∃ src, u = .xfer src := by
  intro u hu
  obtain h | h | ⟨src, -, h⟩ := mem_frame hu
  · exact .inl h
  · exact .inr ⟨_, h⟩
  · exact .inr ⟨src, h⟩

/-- Settles O50: a frame only sends or aborts, and a micro-op has one of its four effects. -/
theorem engineInstructionsKeepTheRest : Obligations.EngineInstructionsKeepTheRest := by
  intro i s t hop hres h
  obtain hop' | ⟨x, rfl⟩ | ⟨us, hus⟩ | ⟨u, rfl⟩ := instr_kind s.cfg i
  · rw [hop] at hop'; cases hop'
  · exact absurd rfl (hres x)
  · obtain ⟨hexec, o, l, rfl⟩ := exec_frame hus
    rw [hexec] at h
    obtain ⟨hcfg, hopr, hrej, hsched, hreads, hraced, -⟩ := runUops_keeps h
    obtain ⟨hrst, hp, hpw, hrest⟩ := runUops_sendsOrAborts frame_kind h
    refine ⟨hcfg, hopr, hrej, hsched, hreads, hraced, fun _ => hrst, fun _ => ?_, fun _ => ?_, ?_, fun _ => ⟨hp, hpw, ?_⟩⟩ <;> tauto
  · rw [exec_instr] at h
    obtain ⟨hcfg, hopr, hrej, hsched, hreads, hraced, -⟩ := runUop_keeps h
    have hset : (∀ x, u.instr ≠ .setps x) → ∀ x, u ≠ .setps x := fun hi x hx => hi x (hx ▸ rfl)
    have hrst : (∀ level, u.instr ≠ .setl .rst level) → ∀ level, u ≠ .setl .rst level := fun hi x hx => hi x (hx ▸ rfl)
    have hwait : u.instr ≠ .waiti → u ≠ .waiti := fun hi hx => hi (hx ▸ rfl)
    refine ⟨hcfg, hopr, hrej, hsched, hreads, hraced, ?_⟩
    obtain ⟨-, -, hrun, herr, hr, hps, hpolls, -⟩ | ⟨rfl, -, hrun, herr, hr, hps, -⟩ | ⟨-, -, hrun, herr, hr, hps, hp, hpw, -⟩ | ⟨rfl, rfl⟩ :=
      runUop_effect h
    · refine ⟨fun hi => hr (hrst hi), fun hi => .inl ?_, fun _ => .inl hrun, .inl herr, fun hi => ?_⟩
      · obtain ⟨x, hx, -⟩ | ⟨-, hps⟩ := hps
        · exact absurd hx (hset hi x)
        · exact hps
      · obtain ⟨hp, hpw, hlast⟩ := hpolls (hwait hi)
        exact ⟨hp, hpw, .inl hlast⟩
    · exact ⟨fun _ => hr, fun _ => .inl hps, fun _ => .inl hrun, .inl herr, fun hi => absurd rfl hi⟩
    · exact ⟨fun _ => hr, fun _ => .inr ⟨hps, hrun, herr⟩, fun _ => .inr ⟨hrun, hps, herr⟩, .inr ⟨hrun, hps⟩,
        fun _ => ⟨hp, hpw, .inr herr⟩⟩
    · exact ⟨fun _ => rfl, fun _ => .inl rfl, fun hi => absurd rfl hi, .inl rfl, fun _ => ⟨rfl, rfl, .inl rfl⟩⟩

end Sys2Proof.Machine
end

section
/-! What a step of either agent can do, and what follows for `PS`, `ERR`, `SEQ` and the trace (10_state.md sections 1 and 2,
00_scope.md section 5, 60_exceptions.md section 5). -/

namespace Sys2Proof.Machine
open Sys2Proof

/-- The instructions with a request word. -/
theorem operation_or_reserved_of_word {i : Instr} {w : Half} (h : requestWord i = some w) :
    isOperation i = true ∨ ∃ x, i = .reservedOp x := by
  cases i with
  | waitIdle | sendCommand _ | sendData _ | reset | initPanel | loadLut _ | loadLutBw | loadLutRed | displayFrame _ _ _ | sleep
  | clearToWhite | showSession _ => exact .inl rfl
  | reservedOp x => exact .inr ⟨x, rfl⟩
  | _ => cases h

/-- A write of `REQ` with a word that decodes is refused, or it is a permitted operation and accepted at rest. -/
theorem exec_decoded_cases {q : Half} {i : Instr} {s t : State} (hd : decode q = .ok i) (h : exec i s = .next t) :
    (∃ verdict, t = s.refuse verdict) ∨
      (isOperation i = true ∧ s.run = false ∧ permitted i s.ps = true ∧ t = s.accept q) := by
  have hw : requestWord i = some q := decode_eq_ok_iff.mp hd
  obtain hop | ⟨x, rfl⟩ := operation_or_reserved_of_word hw
  · rw [exec_operation hop] at h
    cases h
    cases hr : s.run with
    | true => exact .inl ⟨_, request_of_running hr i⟩
    | false =>
      cases hp : permitted i s.ps with
      | true => exact .inr ⟨hop, rfl, rfl, by rw [request_of_permitted hr hp, wordOf, hw, Option.getD_some]⟩
      | false => exact .inl ⟨_, request_of_not_permitted hr hp⟩
  · rw [exec_reservedOp] at h; cases h; exact .inl ⟨_, rfl⟩

/-- The next states of a step. -/
inductive StepEffect (s t : State) : Prop
  /-- The engine's turn at rest passes. -/
  | passed (turn : s.engineTurn) (stopped : s.run = false) (eq : t = s.turnTaken)
  /-- The engine runs the micro-op at `SEQ`. -/
  | uop (turn : s.engineTurn) (running : s.run = true) (p : List Uop) (u : Uop) (hp : s.program = some p)
      (hu : p[s.seq.toNat]? = some u) (run : runUop u s.turnTaken = .next t)
  /-- A write of `REQ` is refused. -/
  | refused (q : Half) (rest : List Turn) (turn : s.sched = .host (.writeReq q) :: rest) (verdict : RejCode)
      (eq : t = s.turnTaken.refuse verdict)
  /-- A write of `REQ` is accepted. -/
  | accepted (q : Half) (rest : List Turn) (turn : s.sched = .host (.writeReq q) :: rest) (i : Instr) (word : decode q = .ok i)
      (operation : isOperation i = true) (stopped : s.run = false) (permits : permitted i s.ps = true) (eq : t = s.turnTaken.accept q)
  /-- The host reads, or writes `STATUS`. -/
  | observed (act : HostAct) (rest : List Turn) (turn : s.sched = .host act :: rest) (reads : List HostRead)
      (eq : t = { s.turnTaken with hostReads := reads })
  /-- The host writes a byte of a plane. -/
  | wrotePlane (pl : Plane) (a : Nat) (v : Byte) (rest : List Turn) (turn : s.sched = .host (.writePlane pl a v) :: rest)
      (inside : a < s.cfg.n) (eq : t = s.turnTaken.hostWrite pl a v)
  /-- The block is reset. -/
  | blockReset (rest : List Turn) (turn : s.sched = .host .blockReset :: rest) (eq : t = s.turnTaken.blockReset)

/-- A step has one of these effects. -/
theorem step_effect {s t : State} (h : step s = .next t) : StepEffect s t := by
  obtain ⟨-, ⟨he, hr, rfl⟩ | ⟨p, u, he, hr, hp, hu, hrun⟩ | ⟨act, rest, hs, hact⟩⟩ := step_next_cases h
  · exact .passed he hr rfl
  · exact .uop he hr p u hp hu hrun
  · obtain ⟨q, i, rfl, hd, hexec⟩ | ⟨q, e, rfl, hd, rfl⟩ | ⟨rfl, rfl⟩ | ⟨v, rfl, rfl⟩ | ⟨rfl, rfl⟩ | ⟨pl, a, v, rfl, ha, rfl⟩ |
      ⟨pl, a, rfl, ha, rfl⟩ | ⟨rfl, rfl⟩ := hact
    · obtain ⟨verdict, rfl⟩ | ⟨hop, hr, hp, rfl⟩ := exec_decoded_cases hd hexec
      · exact .refused q rest hs verdict rfl
      · exact .accepted q rest hs i hd hop hr hp rfl
    · exact .refused q rest hs _ (requestIllegal_eq _)
    · exact .observed _ rest hs _ rfl
    · exact .observed _ rest hs s.hostReads rfl
    · exact .observed _ rest hs _ rfl
    · exact .wrotePlane pl a v rest hs ha rfl
    · exact .observed _ rest hs _ rfl
    · exact .blockReset rest hs rfl

/-- The engine's turn is not the host's. -/
theorem not_engineTurn_of_host {s : State} {act : HostAct} {rest : List Turn} (h : s.sched = .host act :: rest) : ¬ s.engineTurn := by
  rintro (hs | ⟨_, hs⟩) <;> rw [h] at hs <;> cases hs

/-- The micro-op at `SEQ`. -/
theorem currentUop_of_getElem? {s : State} {p : List Uop} {u : Uop} (hp : s.program = some p) (hu : p[s.seq.toNat]? = some u) :
    s.currentUop = some u := by
  rw [State.currentUop, hp, Option.bind_some, hu]

/-- A host write of a plane changes no register, and no event is emitted. -/
theorem hostWrite_registers (s : State) (pl : Plane) (a : Nat) (v : Byte) :
    (s.hostWrite pl a v).ps = s.ps ∧ (s.hostWrite pl a v).err = s.err ∧ (s.hostWrite pl a v).trace = s.trace := by
  cases pl <;> simp [State.hostWrite]

/-- Settles O51: of a step's effects only a `SETPS`, an abort and a block reset write `PS`. -/
theorem panelStateIsWrittenOnlyBySetpsAndAbort : Obligations.PanelStateIsWrittenOnlyBySetpsAndAbort := by
  intro s t h hne
  cases step_effect h with
  | uop turn running p u hp hu run =>
    obtain ⟨-, -, -, -, -, hps, -⟩ | ⟨-, -, -, -, -, hps, -⟩ | ⟨-, -, hrun, herr, -, hps, -⟩ | ⟨-, rfl⟩ := runUop_effect run
    · obtain ⟨x, rfl, hx⟩ | ⟨-, hps⟩ := hps
      · exact .inl ⟨turn, running, x, currentUop_of_getElem? hp hu, hx⟩
      · exact absurd hps hne
    · exact absurd hps hne
    · exact .inr (.inl ⟨turn, running, hps, hrun, herr⟩)
    · exact absurd rfl hne
  | wrotePlane pl a v _ _ _ eq => subst eq; exact absurd (hostWrite_registers _ pl a v).1 hne
  | blockReset rest turn eq => subst eq; exact .inr (.inr ⟨rfl, rest, turn⟩)
  | passed _ _ eq | refused _ _ _ _ eq | accepted _ _ _ _ _ _ _ _ eq | observed _ _ _ _ eq => subst eq; exact absurd rfl hne

/-- Settles O52: of a step's effects only an acceptance, an abort and a block reset write `ERR`. -/
theorem errIsWrittenOnlyByAcceptanceAbortAndReset : Obligations.ErrIsWrittenOnlyByAcceptanceAbortAndReset := by
  intro s t h hne
  cases step_effect h with
  | uop turn running p u hp hu run =>
    obtain ⟨-, -, -, herr, -⟩ | ⟨-, -, -, herr, -⟩ | ⟨-, -, hrun, -, -, hps, -⟩ | ⟨-, rfl⟩ := runUop_effect run
    · exact absurd herr hne
    · exact absurd herr hne
    · exact .inr (.inl ⟨turn, running, hrun, hps⟩)
    · exact absurd rfl hne
  | accepted q rest turn i _ _ stopped _ eq => subst eq; exact .inl ⟨rfl, stopped, rfl, rfl, q, rest, turn, rfl⟩
  | wrotePlane pl a v _ _ _ eq => subst eq; exact absurd (hostWrite_registers _ pl a v).2.1 hne
  | blockReset rest turn eq => subst eq; exact .inr (.inr ⟨rfl, rest, turn⟩)
  | passed _ _ eq | refused _ _ _ _ eq | observed _ _ _ _ eq => subst eq; exact absurd rfl hne

/-- Settles O53: of the engine's effects a micro-op that is done advances `SEQ`, and every other leaves it. -/
theorem seqOnlyAdvancesByOne : Obligations.SeqOnlyAdvancesByOne := by
  intro s t h he
  cases step_effect h with
  | passed _ stopped eq => subst eq; exact .inr ⟨rfl, .inl stopped⟩
  | uop _ running p u hp hu run =>
    obtain ⟨-, hseq, hrun, -⟩ | ⟨hwait, hseq, -, -, -, -, hlast, -⟩ | ⟨-, hseq, hrun, -⟩ | ⟨-, rfl⟩ := runUop_effect run
    · exact .inl ⟨hseq, running, hrun.trans running⟩
    · exact .inr ⟨hseq, .inr (.inr ⟨hwait ▸ currentUop_of_getElem? hp hu, hlast⟩)⟩
    · exact .inr ⟨hseq, .inr (.inl hrun)⟩
    · exact .inr ⟨rfl, .inr (.inl rfl)⟩
  | refused _ _ turn | accepted _ _ turn | observed _ _ turn | wrotePlane _ _ _ _ turn | blockReset _ turn =>
    exact absurd he (not_engineTurn_of_host turn)

/-- Settles O54: of a step's effects only a micro-op writes the trace, and it appends to it. -/
theorem onlyTheEngineEmitsEvents : Obligations.OnlyTheEngineEmitsEvents := by
  intro s t h
  have silent : t.trace = s.trace → (∃ es, t.trace = s.trace ++ es) ∧ (¬ (s.engineTurn ∧ s.run = true) → t.trace = s.trace) :=
    fun h => ⟨⟨[], by simpa using h⟩, fun _ => h⟩
  cases step_effect h with
  | uop turn running p u hp hu run => exact ⟨runUop_trace (s := s.turnTaken) run, fun hno => absurd ⟨turn, running⟩ hno⟩
  | wrotePlane pl a v _ _ _ eq => subst eq; exact silent (hostWrite_registers _ pl a v).2.2
  | passed _ _ eq | refused _ _ _ _ eq | accepted _ _ _ _ _ _ _ _ eq | observed _ _ _ _ eq | blockReset _ _ eq =>
    subst eq; exact silent rfl

end Sys2Proof.Machine
end

section
/-! A host write of a plane (20_memory.md sections 1 and 4). -/

namespace Sys2Proof.Machine
open Sys2Proof

/-- What the planes hold after a host write. -/
theorem planeByte_hostWrite {s : State} (hb : s.fbBlack.wf) (hr : s.fbRed.wf) (pl pl' : Plane) (a b : Nat) (v : Byte) :
    (s.hostWrite pl a v).planeByte pl' b = if pl' = pl ∧ b = a then v else s.planeByte pl' b := by
  have same : (s.hostWrite pl a v).planeByte pl b = if b = a then v else s.planeByte pl b := by
    by_cases hba : b = a <;> cases pl <;>
      simp [State.hostWrite, State.planeByte, State.plane, Memory.read_write, hb, hr, hba]
  have other : pl' ≠ pl → (s.hostWrite pl a v).planeByte pl' b = s.planeByte pl' b := by
    intro hne
    have hplane : (s.hostWrite pl a v).plane pl' = s.plane pl' := by
      cases pl <;> cases pl' <;> simp_all [State.hostWrite, State.plane]
    have hresets : (s.hostWrite pl a v).resets = s.resets := by cases pl <;> simp [State.hostWrite]
    rw [State.planeByte, hplane, hresets, State.planeByte]
  by_cases hpl : pl' = pl
  · subst hpl; simp [same]
  · simp [other hpl, hpl]

/-- Both planes keep their canonical form. -/
theorem hostWrite_wf {s : State} (hb : s.fbBlack.wf) (hr : s.fbRed.wf) (pl : Plane) (a : Nat) (v : Byte) :
    (s.hostWrite pl a v).fbBlack.wf ∧ (s.hostWrite pl a v).fbRed.wf := by
  cases pl with
  | black => exact State.storePlane_wf (by simpa using hb) (by simpa using hr) .black a v
  | red => exact State.storePlane_wf hb hr .red a v

/-- The bytes noted as raced after a host write. -/
theorem hostWrite_raced (s : State) (pl : Plane) (a : Nat) (v : Byte) :
    (s.hostWrite pl a v).raced =
      if pl = .black ∧ s.transferring = true then (a, s.planeByte .black a) :: s.raced else s.raced := by
  cases pl <;> simp [State.hostWrite]

/-- A host write changes the planes and the bytes noted as raced alone. -/
theorem hostWrite_frame (s : State) (pl : Plane) (a : Nat) (v : Byte) :
    s.hostWrite pl a v = { s with
      fbBlack := (s.hostWrite pl a v).fbBlack, fbRed := (s.hostWrite pl a v).fbRed, raced := (s.hostWrite pl a v).raced } := by
  cases pl with
  | black => cases h : s.transferring <;> simp [State.hostWrite, State.recordRace, State.storePlane, h]
  | red => rfl

/-- While `DISPLAY_FRAME` or `SHOW` is in progress. -/
theorem transferring_iff (s : State) :
    s.transferring = true ↔ s.run = true ∧ (s.opr.extractLsb' 12 4 = 0x8#4 ∨ s.opr.extractLsb' 12 4 = 0xB#4) := by
  simp [State.transferring]

/-- A byte noted as raced stands before the older ones of its location, and no other location has it. -/
theorem oldBytes_of_raced_cons {s t : State} {a : Nat} {v : Byte} (h : t.raced = (a, v) :: s.raced) :
    t.oldBytes a = v :: s.oldBytes a ∧ ∀ b, b ≠ a → t.oldBytes b = s.oldBytes b := by
  constructor
  · simp [State.oldBytes, h]
  · intro b hb
    simp [State.oldBytes, h, hb.symm]

/-- Settles O56: the byte written, the other bytes, the bytes noted as raced and the rest, one by one; and past the end the stop. -/
theorem hostWriteChangesOneByte : Obligations.HostWriteChangesOneByte := by
  intro s pl a v rest hi hs races
  refine ⟨fun ha => ?inside, fun ha => step_access_of_le hi.config hs ha rfl⟩
  obtain ⟨hb, -⟩ := hi.black
  obtain ⟨hr, -⟩ := hi.red
  have hraces : races ↔ pl = .black ∧ s.transferring = true := by rw [transferring_iff]
  generalize hs' : ({ s with sched := rest } : State) = s'
  have hb' : s'.fbBlack.wf := hs' ▸ hb
  have hr' : s'.fbRed.wf := hs' ▸ hr
  have hbyte := planeByte_hostWrite hb' hr' pl
  have hraced := hostWrite_raced s' pl a v
  have hrest := hostWrite_frame s' pl a v
  obtain ⟨hwb, hwr⟩ := hostWrite_wf hb' hr' pl a v
  refine ⟨s'.hostWrite pl a v, hs' ▸ step_access_of_lt hi.config hs ha rfl, by simp [hbyte], fun pl' b hne => ?other, ?wf,
    fun h => ?races, fun h => ?calm, ?rest, ?status, ?_, ?_, ?_⟩
  all_goals subst hs'
  case other => rw [hbyte, if_neg (by tauto)]; rfl
  case wf => cases pl <;> assumption
  case races => exact oldBytes_of_raced_cons (hraced.trans (if_pos (hraces.mp h)))
  case calm => exact hraced.trans (if_neg fun hc => h (hraces.mpr hc))
  case rest => exact hrest
  case status => rw [hrest]; rfl
  all_goals rw [hrest]

end Sys2Proof.Machine
end

section
/-! The invariant (30_encoding.md section 3, 10_state.md section 2): it holds at reset, every effect of a step keeps it, and where it holds
the engine is never stopped. -/

namespace Sys2Proof.Machine
open Sys2Proof

/-- Settles O46: the configuration is in its ranges, the planes are empty and nothing runs. -/
theorem invariantHoldsAtReset : Obligations.InvariantHoldsAtReset where
  config := rfl
  black := ⟨List.Pairwise.nil, by intro x hx; cases hx⟩
  red := ⟨List.Pairwise.nil, by intro x hx; cases hx⟩
  released := rfl
  running h := by cases h
  waiting h := by cases h
  aborted h := absurd rfl h
  faulted h := by cases h
  bounded n h := by cases h

/-- The panel state once the stored ones have been stored. -/
def psAfter (ps : PanelState) (states : List RestState) : PanelState := states.foldl (fun _ x => panelStateOf x) ps

/-- A body holds no `END`, and stores panel states up to the one the operation ends in (10_state.md R28). -/
theorem body_holds {c : Cfg} {i : Instr} {b : List Uop} (h : body c i = some b) :
    Uop.endOp ∉ b ∧ ∀ ps, psAfter ps (b.filterMap storedState) = endState i ps := by
  have hb := Holds.body h
  refine ⟨hb.noEnd, fun ps => ?_⟩
  rw [hb.states]
  cases i with
  | waitIdle | sendCommand _ | sendData _ | reset | initPanel | loadLut _ | loadLutBw | loadLutRed | displayFrame _ _ _ | sleep
  | clearToWhite | showSession _ => rfl
  | _ => cases h

/-- `END` is the last micro-op of a program and no other (30_encoding.md R79). -/
theorem getElem?_eq_endOp_iff {c : Cfg} {q : Half} {p : List Uop} (h : prog c q = some p) {k : Nat} {u : Uop} (hu : p[k]? = some u) :
    u = .endOp ↔ k + 1 = p.length := by
  obtain ⟨i, -, hi⟩ := prog_eq_some.mp h
  obtain ⟨b, hb, rfl⟩ := program_eq_some.mp hi
  obtain ⟨hno, -⟩ := body_holds hb
  obtain ⟨hlt, hget⟩ := List.getElem?_eq_some_iff.mp hu
  rw [List.length_append, List.length_singleton] at hlt ⊢
  constructor
  · rintro rfl
    by_contra hne
    rw [List.getElem_append_left (by omega)] at hget
    exact hno (hget ▸ List.getElem_mem _)
  · intro hk
    rw [List.getElem_append_right (by omega)] at hget
    simpa using hget.symm

/-- `SEQ` counts every program (10_state.md R21). -/
theorem length_prog_le {c : Cfg} (hw : c.wf = true) {q : Half} {p : List Uop} (h : prog c q = some p) : p.length ≤ 2 ^ 32 := by
  obtain ⟨i, -, hi⟩ := prog_eq_some.mp h
  exact length_program_le hw hi

/-- `SEQ` one further, short of the end of a program. -/
theorem seq_succ_toNat {c : Cfg} (hw : c.wf = true) {q : Half} {p : List Uop} (h : prog c q = some p) {seq : Word}
    (hlt : seq.toNat + 1 < p.length) : (seq + 1).toNat = seq.toNat + 1 := by
  have := length_prog_le hw h
  rw [BitVec.toNat_add, show (1 : Word).toNat = 1 from rfl]; omega

/-- Where a stored panel state comes from. -/
theorem setps_mem_of_stored {b : List Uop} {x : RestState} (h : x ∈ b.filterMap storedState) : Uop.setps x ∈ b := by
  obtain ⟨u, hu, hx⟩ := List.mem_filterMap.mp h
  cases u with
  | setps y => cases hx; exact hu
  | _ => cases hx

/-- An operation that ends in another panel state holds a `SETPS`. -/
theorem exists_setps {c : Cfg} {i : Instr} {b : List Uop} (h : body c i = some b) {ps : PanelState} (hps : endState i ps ≠ ps) :
    ∃ x, Uop.setps x ∈ b := by
  obtain ⟨-, hend⟩ := body_holds h
  cases hst : b.filterMap storedState with
  | nil => rw [← hend ps, hst] at hps; exact absurd rfl hps
  | cons x xs => exact ⟨x, setps_mem_of_stored (hst ▸ List.mem_cons_self)⟩

/-- An operation that begins with a reset pulse does not end in `Fault`. -/
theorem endState_of_pulse {i : Instr} (h : permitted i .fault = true) : endState i .fault ≠ .fault := by
  cases i with
  | reset | initPanel | showSession _ => simp [endState]
  | _ => cases h

/-- An operation has a body. -/
theorem exists_body {i : Instr} (h : isOperation i = true) (c : Cfg) : ∃ b, body c i = some b := by
  cases i with
  | waitIdle | sendCommand _ | sendData _ | reset | initPanel | loadLut _ | loadLutBw | loadLutRed | displayFrame _ _ _ | sleep
  | clearToWhite | showSession _ => exact ⟨_, rfl⟩
  | _ => cases h

/-- A byte written inside the plane. -/
theorem Memory.inPlane_write {c : Cfg} {m : Memory} (h : Memory.inPlane c m) {a : Nat} (ha : a < c.n) (v : Byte) :
    Memory.inPlane c (m.write a v) := by
  obtain ⟨hwf, hin⟩ := h
  refine ⟨Memory.write_wf a v hwf, fun x hx => ?_⟩
  obtain rfl | hx := Memory.mem_write hx
  · exact ha
  · exact hin x hx

namespace Inv
variable {s t : State}

/-- The schedule, the record of reads and `REJ` are not in it. -/
theorem turnTaken (h : Inv s) : Inv s.turnTaken :=
  ⟨h.config, h.black, h.red, h.released, h.running, h.waiting, h.aborted, h.faulted, h.bounded⟩

theorem refuse (h : Inv s) (verdict : RejCode) : Inv (s.refuse verdict) :=
  ⟨h.config, h.black, h.red, h.released, h.running, h.waiting, h.aborted, h.faulted, h.bounded⟩

theorem withReads (h : Inv s) (reads : List HostRead) : Inv { s with hostReads := reads } :=
  ⟨h.config, h.black, h.red, h.released, h.running, h.waiting, h.aborted, h.faulted, h.bounded⟩

/-- A bound of a wait is at least 1. -/
theorem bound_pos (h : Inv s) {n : Nat} (hn : s.cfg.waitTimeout = some n) : 0 < n := Nat.zero_lt_of_lt (h.bounded n hn)

theorem accept (h : Inv s) {q : Half} {i : Instr} (hd : decode q = .ok i) (hop : isOperation i = true)
    (hp : permitted i s.ps = true) : Inv (s.accept q) := by
  obtain ⟨b, hb⟩ := exists_body hop s.cfg
  have hprog : prog s.cfg q = some (b ++ [.endOp]) := prog_eq_some.mpr ⟨i, hd, program_eq_some.mpr ⟨b, hb, rfl⟩⟩
  refine ⟨h.config, h.black, h.red, h.released, fun _ => ⟨_, hprog, by simp⟩, fun hl => (by cases hl), fun he => absurd rfl he,
    fun hf => .inr ⟨rfl, ?_⟩, fun n hn => ?_⟩
  · have hps : s.ps = .fault := hf
    obtain ⟨x, hx⟩ := exists_setps hb (endState_of_pulse (by simpa [hps] using hp))
    exact ⟨_, x, hprog, List.mem_append_left _ hx⟩
  · rw [State.accept_busySamples]; exact h.bound_pos hn

theorem hostWrite (h : Inv s) (pl : Plane) {a : Nat} (ha : a < s.cfg.n) (v : Byte) : Inv (s.hostWrite pl a v) := by
  have hblack : Memory.inPlane s.cfg (s.hostWrite pl a v).fbBlack := by
    cases pl with
    | black => simpa [State.hostWrite] using Memory.inPlane_write h.black ha v
    | red => exact h.black
  have hred : Memory.inPlane s.cfg (s.hostWrite pl a v).fbRed := by
    cases pl with
    | black => simpa [State.hostWrite] using h.red
    | red => exact Memory.inPlane_write h.red ha v
  rw [hostWrite_frame]
  exact ⟨h.config, hblack, hred, h.released, h.running, h.waiting, h.aborted, h.faulted, h.bounded⟩

theorem blockReset (h : Inv s) : Inv s.blockReset where
  config := h.config
  black := ⟨List.Pairwise.nil, by intro x hx; cases hx⟩
  red := ⟨List.Pairwise.nil, by intro x hx; cases hx⟩
  released := rfl
  running hr := by cases hr
  waiting hl := by cases hl
  aborted he := absurd rfl he
  faulted hf := by cases hf
  bounded n hn := by rw [State.blockReset_busySamples]; exact h.bound_pos hn

/-- No error is held while an operation runs. -/
theorem noError (h : Inv s) (hr : s.run = true) : s.err = .none := by
  by_contra he
  rw [(h.aborted he).1] at hr; cases hr

/-- While an operation runs in `Fault`, a `SETPS` is still to come. -/
theorem setps_ahead (h : Inv s) {p : List Uop} (hr : s.run = true) (hp : s.program = some p) (hf : s.ps = .fault) :
    ∃ x, Uop.setps x ∈ p.drop s.seq.toNat := by
  obtain ⟨hr', -⟩ | ⟨-, p', x, hp', hx⟩ := h.faulted hf
  · rw [hr'] at hr; cases hr
  · rw [hp, Option.some.injEq] at hp'; exact ⟨x, hp' ▸ hx⟩

/-- `LASTBUSY` is held at a wait alone. -/
theorem eq_waiti (h : Inv s) {u : Uop} (hcur : s.currentUop = some u) (hl : s.lastBusy = true) : u = .waiti :=
  Option.some.inj (hcur.symm.trans (h.waiting hl).2)

/-- What a micro-op keeps is the configuration and the planes of the invariant. -/
theorem of_keeps (h : Inv s) (keeps : s.Keeps t) (released : t.csL = !t.cfg.csAssertLevel)
    (running : t.run = true → ∃ p, t.program = some p ∧ t.seq.toNat < p.length)
    (waiting : t.lastBusy = true → t.run = true ∧ t.currentUop = some .waiti)
    (aborted : t.err ≠ .none → t.run = false ∧ t.ps = .fault)
    (faulted : t.ps = .fault → (t.run = false ∧ t.err ≠ .none) ∨
      (t.run = true ∧ ∃ p x, t.program = some p ∧ Uop.setps x ∈ p.drop t.seq.toNat))
    (bounded : ∀ n, s.cfg.waitTimeout = some n → t.busySamples < n) : Inv t where
  config := keeps.cfg.symm ▸ h.config
  black := by rw [keeps.cfg, keeps.fbBlack]; exact h.black
  red := by rw [keeps.cfg, keeps.fbRed]; exact h.red
  released := released
  running := running
  waiting := waiting
  aborted := aborted
  faulted := faulted
  bounded n hn := bounded n (keeps.cfg ▸ hn)

/-- A micro-op at `SEQ` keeps it: each of the four effects does. -/
theorem uop (h : Inv s) {p : List Uop} {u : Uop} (hr : s.run = true) (hp : s.program = some p) (hu : p[s.seq.toNat]? = some u)
    (hrun : runUop u s = .next t) : Inv t := by
  have keeps := runUop_keeps hrun
  have hprog : t.program = some p := keeps.program.trans hp
  have hcur := currentUop_of_getElem? hp hu
  have hend := getElem?_eq_endOp_iff hp hu
  obtain ⟨hlt, hget⟩ := List.getElem?_eq_some_iff.mp hu
  have hdrop : p.drop s.seq.toNat = u :: p.drop (s.seq.toNat + 1) := by rw [List.drop_eq_getElem_cons hlt, hget]
  have released : t.csL = !t.cfg.csAssertLevel :=
    runUop_released hrun (fun level hl => (SendsPaired.prog hp).not_mem_cs level (hl ▸ List.mem_of_getElem? hu)) h.released
  obtain ⟨hne, hseq, hrun', herr, -, hps, hpolls, hwait⟩ | ⟨rfl, hseq, hrun', herr, -, hps, -, hsamples, hbelow⟩ |
    ⟨-, hseq, hrun', herr, -, hps, hpl, hpw, hl⟩ | ⟨rfl, rfl⟩ := runUop_effect hrun
  · have hlt' : s.seq.toNat + 1 < p.length := lt_of_le_of_ne hlt fun hk => hne (hend.mpr hk)
    have hseq' : t.seq.toNat = s.seq.toNat + 1 := by rw [hseq]; exact seq_succ_toNat h.config hp hlt'
    refine h.of_keeps keeps released (fun _ => ⟨p, hprog, hseq' ▸ hlt'⟩) (fun hl => ?_)
      (fun he => absurd (herr.trans (h.noError hr)) he) (fun hf => .inr ⟨hrun'.trans hr, ?_⟩) (fun n hn => ?_)
    · by_cases hw : u = .waiti
      · rw [(hwait hw).2] at hl; cases hl
      · exact absurd (h.eq_waiti hcur ((hpolls hw).2.2 ▸ hl)) hw
    · obtain ⟨x, -, hx⟩ | ⟨hno, hps⟩ := hps
      · rw [hx] at hf; cases x <;> cases hf
      · obtain ⟨x, hx⟩ := h.setps_ahead hr hp (hps.symm.trans hf)
        rw [hdrop, List.mem_cons] at hx
        exact ⟨p, x, hprog, hseq' ▸ hx.resolve_left fun he => hno x he.symm⟩
    · by_cases hw : u = .waiti
      · rw [(hwait hw).1]; exact h.bound_pos hn
      · obtain ⟨hpl, hpw, -⟩ := hpolls hw
        rw [State.busySamples, hpl, hpw]; exact h.bounded n hn
  · refine h.of_keeps keeps released (fun _ => ⟨p, hprog, hseq ▸ hlt⟩)
      (fun _ => ⟨hrun'.trans hr, currentUop_of_getElem? hprog (hseq ▸ hu)⟩) (fun he => absurd (herr.trans (h.noError hr)) he)
      (fun hf => .inr ⟨hrun'.trans hr, ?_⟩) (fun n hn => ?_)
    · obtain ⟨x, hx⟩ := h.setps_ahead hr hp (hps.symm.trans hf)
      exact ⟨p, x, hprog, hseq ▸ hx⟩
    · rw [State.timesOut_of_some hn, decide_eq_false_iff_not] at hbelow
      omega
  · refine h.of_keeps keeps released (fun hr' => ?_) (fun hl' => ?_) (fun _ => ⟨hrun', hps⟩) (fun _ => .inl ⟨hrun', herr⟩)
      (fun n hn => ?_)
    · rw [hrun'] at hr'; cases hr'
    · rw [hl] at hl'; cases hl'
    · rw [State.busySamples, hpl, hpw]; exact h.bounded n hn
  · refine h.of_keeps keeps released (fun hr' => by cases hr') (fun hl => by cases h.eq_waiti hcur hl)
      (fun he => absurd (h.noError hr) he) (fun hf => ?_) h.bounded
    obtain ⟨x, hx⟩ := h.setps_ahead hr hp hf
    rw [hdrop, hend.mp rfl, List.drop_length, List.mem_singleton] at hx
    cases hx

/-- At `SEQ` of a program in progress stands a micro-op whose transfer names a byte that exists. -/
theorem exists_uop (h : Inv s) (hr : s.run = true) :
    ∃ p u, s.program = some p ∧ p[s.seq.toNat]? = some u ∧ ∀ src, u = .xfer src → src.wf s.cfg = true := by
  obtain ⟨p, hp, hlt⟩ := h.running hr
  refine ⟨p, _, hp, List.getElem?_eq_getElem hlt, fun src hsrc => (SendsPaired.prog hp).wf_of_mem (hsrc ▸ List.getElem_mem hlt)⟩

end Inv

/-- Settles O47: each effect of a step keeps the invariant. -/
theorem everyStepKeepsTheInvariant : Obligations.EveryStepKeepsTheInvariant := by
  intro s t hi h
  have hi' := hi.turnTaken
  cases step_effect h with
  | passed _ _ eq => exact eq ▸ hi'
  | uop _ running p u hp hu run => exact hi'.uop running hp hu run
  | refused _ _ _ verdict eq => exact eq ▸ hi'.refuse verdict
  | accepted _ _ _ i word operation _ permits eq => exact eq ▸ hi'.accept word operation permits
  | observed _ _ _ reads eq => exact eq ▸ hi'.withReads reads
  | wrotePlane pl a v _ _ inside eq => exact eq ▸ hi'.hostWrite pl inside v
  | blockReset _ _ eq => exact eq ▸ hi'.blockReset

/-- Settles O48: at rest the turn passes, and while `RUN = 1` the micro-op at `SEQ` has an effect. -/
theorem engineIsNeverStopped : Obligations.EngineIsNeverStopped := by
  intro s hi he
  cases hr : s.run with
  | false => exact ⟨_, step_at_rest hi.config he hr⟩
  | true =>
    obtain ⟨p, u, hp, hu, hw⟩ := hi.exists_uop hr
    rw [step_of_uop hi.config he hr hp hu]
    exact runUop_next_of_wf hw

end Sys2Proof.Machine
end

section
/-! The wire frames (30_encoding.md section 2): a frame is sent whole where no transfer faults, ends at a fault of its command byte, and is
the engine's steps over its micro-ops. -/

namespace Sys2Proof.Machine
open Sys2Proof

/-- The state once bytes have been sent: the events appended, the level of `DC` of the last one, two micro-ops and one answer of the bus
for each, and the answers of the race taken for the raced ones. -/
def State.sent (s : State) (es : List Event) (dc : Level) (bytes racedReads : Nat) : State :=
  { s with
    trace := s.trace ++ es
    seq := s.seq + BitVec.ofNat 32 (2 * bytes)
    dcL := dc
    csL := !s.cfg.csAssertLevel
    bus := { s.bus with script := s.bus.script.drop bytes }
    race := { s.race with script := s.race.script.drop racedReads }
    draws := s.draws + bytes + racedReads }

/-- Bytes sent after bytes sent. -/
theorem State.sent_sent (s : State) (es es' : List Event) (dc dc' : Level) (n n' k k' : Nat) :
    (s.sent es dc n k).sent es' dc' n' k' = s.sent (es ++ es') dc' (n + n') (k + k') := by
  have hseq : s.seq + BitVec.ofNat 32 (2 * n) + BitVec.ofNat 32 (2 * n') = s.seq + BitVec.ofNat 32 (2 * (n + n')) := by
    rw [BitVec.add_assoc, ← BitVec.ofNat_add, ← Nat.mul_add]
  have hdraws : s.draws + n + k + n' + k' = s.draws + (n + n') + (k + k') := by omega
  simp only [State.sent, List.append_assoc, List.drop_drop, hseq, hdraws]

/-- The answers of the race a source takes: one where it is raced. -/
def State.racedRead (s : State) : ByteSrc → Nat
  | .imm _ => 0
  | .fbb a => if s.oldBytes a = [] then 0 else 1
  | .fbbn a => if s.oldBytes a = [] then 0 else 1
  | .lutb _ _ => 0

theorem State.racedRead_le (s : State) (src : ByteSrc) : s.racedRead src ≤ 1 := by
  have black : ∀ a, (if s.oldBytes a = [] then 0 else 1) ≤ 1 := fun a => by split <;> omega
  cases src with
  | imm _ | lutb _ _ => exact Nat.zero_le 1
  | fbb a | fbbn a => exact black a

/-- Reading a source takes its answers of the race. -/
theorem State.readSrc_eq (s : State) (src : ByteSrc) :
    s.readSrc src = { s with
      race := { s.race with script := s.race.script.drop (s.racedRead src) }, draws := s.draws + s.racedRead src } := by
  have black : ∀ a, s.readBlack a = { s with
      race := { s.race with script := s.race.script.drop (if s.oldBytes a = [] then 0 else 1) }
      draws := s.draws + if s.oldBytes a = [] then 0 else 1 } := by
    intro a
    unfold State.readBlack
    split
    · rfl
    · simp [State.askedRace, Answers.rest]
  cases src with
  | imm b => rfl
  | fbb a => exact black a
  | fbbn a => exact black a
  | lutb t i => rfl

/-- The events of one byte at a level of `DC`. -/
def byteEvents (c : Cfg) (dc : Level) (v : Byte) : List Event :=
  [.L .dc dc, .L .cs c.csAssertLevel, .B v, .L .cs (!c.csAssertLevel)]

/-- The two micro-ops of one byte, where the bus answers `ok`. -/
theorem runUops_byte {s : State} {src : ByteSrc} (hr : s.run = true) (hw : src.wf s.cfg = true) (hb : s.busAnswer = .ok)
    (level : Level) (us : List Uop) :
    ∃ v, s.mayDeliver src v ∧
      runUops (.setl .dc level :: .xfer src :: us) s = runUops us (s.sent (byteEvents s.cfg level v) level 1 (s.racedRead src)) := by
  have hb' : (s.drive .dc level).advance.busAnswer = .ok := hb
  have hr' : (s.drive .dc level).advance.run = true := hr
  refine ⟨(s.drive .dc level).advance.askedBus.srcByte src, State.srcByte_mayDeliver _ src, ?_⟩
  have hsent : (s.drive .dc level).advance.askedBus.sendByte src =
      s.sent (byteEvents s.cfg level ((s.drive .dc level).advance.askedBus.srcByte src)) level 1 (s.racedRead src) := by
    have hseq : s.seq + 1 + 1 = s.seq + BitVec.ofNat 32 (2 * 1) := by rw [BitVec.add_assoc]; rfl
    have hraced : (s.drive .dc level).advance.askedBus.racedRead src = s.racedRead src := by cases src <;> rfl
    rw [State.sendByte, State.readSrc_eq, hraced, State.bracket_eq]
    simp only [State.sent, State.advance, State.drive_dc, State.askedBus, Answers.rest, List.append_assoc, hseq, List.drop_one]
    rfl
  have hxfer := runUop_xfer_of_ok (s := (s.drive .dc level).advance) hw hb'
  have hsetl : runUop (.setl .dc level) s = .next (s.drive .dc level).advance := rfl
  rw [hsent] at hxfer
  simp only [runUops, hr, hr', if_true, hsetl, hxfer]

/-- The data bytes of a frame, after what has been sent before them. -/
theorem runUops_data {s : State} {l : List ByteSrc} (hr : s.run = true) (hw : ∀ src ∈ l, src.wf s.cfg = true) (hn : s.NoFault)
    (es : List Event) (dc : Level) (n k : Nat) :
    ∃ data racedReads, List.Forall₂ s.mayDeliver l data ∧ racedReads ≤ data.length ∧
      runUops (l.flatMap dat) (s.sent es dc n k) =
        .next (s.sent (es ++ data.flatMap (dataEvents s.cfg)) (if data.isEmpty then dc else true) (n + data.length) (k + racedReads)) := by
  induction l generalizing es dc n k with
  | nil => exact ⟨[], 0, .nil, le_rfl, by simp [runUops]⟩
  | cons src l ih =>
    obtain ⟨hsrc, hl⟩ := List.forall_mem_cons.mp hw
    have hb : (s.sent es dc n k).busAnswer = .ok := (hn.drop n).next _
    obtain ⟨v, hv, hbyte⟩ := runUops_byte (s := s.sent es dc n k) hr hsrc hb true (l.flatMap dat)
    obtain ⟨data, racedReads, hdata, hle, hrest⟩ :=
      ih hl (es ++ byteEvents s.cfg true v) true (n + 1) (k + (s.sent es dc n k).racedRead src)
    have hk := State.racedRead_le (s.sent es dc n k) src
    have hcount : n + 1 + data.length = n + (v :: data).length := by rw [List.length_cons]; omega
    have hdc : (if data.isEmpty then true else true) = if (v :: data).isEmpty then dc else true := by simp
    refine ⟨v :: data, (s.sent es dc n k).racedRead src + racedReads, .cons (by cases src <;> exact hv) hdata,
      by rw [List.length_cons]; omega, ?_⟩
    rw [List.flatMap_cons, dat, List.cons_append, List.cons_append, List.nil_append, hbyte, State.sent_sent]
    rw [show (s.sent es dc n k).cfg = s.cfg from rfl, hrest, hcount, hdc, List.append_assoc, Nat.add_assoc]
    rfl

/-- A frame in which no transfer faults is sent whole, each data byte one that its source may deliver. -/
theorem exists_sendsFrame {s : State} {i : Instr} {o : Byte} {l : List ByteSrc} (hr : s.run = true) (hn : s.NoFault)
    (hw : ∀ src ∈ l, src.wf s.cfg = true) (hus : frameUops s.cfg i = some (frame o l)) :
    ∃ data, List.Forall₂ s.mayDeliver l data ∧ s.SendsFrame i o data := by
  obtain ⟨v, rfl, hcommand⟩ := runUops_byte (src := .imm o) hr rfl (hn.next _) false (l.flatMap dat)
  obtain ⟨data, racedReads, hdata, hle, hrest⟩ := runUops_data hr hw hn (commandEvents s.cfg v) false 1 0
  refine ⟨data, hdata, racedReads, hle, ?_⟩
  have hdc : (if data.isEmpty then false else true) = !data.isEmpty := by cases data.isEmpty <;> rfl
  rw [(exec_frame hus).1, frame, cmd, List.cons_append, List.cons_append, List.nil_append, hcommand]
  refine hrest.trans ?_
  rw [hdc, Nat.zero_add, State.sent, Nat.mul_add, frameEvents]

/-- Where each source may deliver one byte alone, the data bytes are those. -/
theorem sendsFrame_of_pinned {s : State} {i : Instr} {o : Byte} {l : List ByteSrc} (hr : s.run = true) (hn : s.NoFault)
    (hw : ∀ src ∈ l, src.wf s.cfg = true) (hpin : ∀ src ∈ l, ∀ v, s.mayDeliver src v → v = s.wireByte src)
    (hus : frameUops s.cfg i = some (frame o l)) : s.SendsFrame i o (l.map s.wireByte) := by
  have pinned : ∀ {l data}, (∀ src ∈ l, ∀ v, s.mayDeliver src v → v = s.wireByte src) → List.Forall₂ s.mayDeliver l data →
      data = l.map s.wireByte := by
    intro l data hpin h
    induction h with
    | nil => rfl
    | cons hv _ ih =>
      obtain ⟨hsrc, hl⟩ := List.forall_mem_cons.mp hpin
      rw [List.map_cons, hsrc _ hv, ih hl]
  obtain ⟨data, hdata, hsend⟩ := exists_sendsFrame hr hn hw hus
  exact pinned hpin hdata ▸ hsend

/-- A frame of constants is sent with them. -/
theorem sendsFrame_of_constants {s : State} {i : Instr} {o : Byte} {bytes : List Byte} (hr : s.run = true) (hn : s.NoFault)
    (hus : frameUops s.cfg i = some (frame o (bytes.map .imm))) : s.SendsFrame i o bytes := by
  have hconst : ∀ src ∈ bytes.map ByteSrc.imm, ∃ b, src = .imm b := fun src hs => by
    obtain ⟨b, -, rfl⟩ := List.mem_map.mp hs; exact ⟨b, rfl⟩
  refine map_wireByte_imm s bytes ▸ sendsFrame_of_pinned hr hn (fun src hs => ?_) (fun src hs v hv => ?_) hus
  · obtain ⟨b, rfl⟩ := hconst src hs; rfl
  · obtain ⟨b, rfl⟩ := hconst src hs; exact hv

/-- A LUT frame is sent with the bytes of its table. -/
theorem sendsFrame_of_lut {s : State} {i : Instr} {t : BitVec 3} (hr : s.run = true) (hn : s.NoFault)
    (hus : frameUops s.cfg i = some (frameLut s.cfg t)) : s.SendsFrame i (s.cfg.lutOpcode t) (s.cfg.lut.get t.toFin).toList := by
  have hlut : ∀ src ∈ lutSrcs t, ∃ k, src = .lutb t k := fun src hs => by
    obtain ⟨k, -, rfl⟩ := List.mem_map.mp hs; exact ⟨k, rfl⟩
  refine map_wireByte_lut s t ▸ sendsFrame_of_pinned hr hn (fun src hs => ?_) (fun src hs v hv => ?_) hus
  · obtain ⟨k, rfl⟩ := hlut src hs; rfl
  · obtain ⟨k, rfl⟩ := hlut src hs; exact hv

/-- Where nothing is raced a source may deliver the byte it names alone. -/
theorem eq_wireByte_of_calm {s : State} (h : s.raced = []) {src : ByteSrc} {v : Byte} (hv : s.mayDeliver src v) : v = s.wireByte src := by
  cases src with
  | imm b => exact hv
  | fbb a => simpa [State.mayDeliver, State.wireByte, State.oldBytes_of_calm h] using hv
  | fbbn a =>
    have complement : ∀ x : Byte, 255 - (255 - x) = x := by decide
    have hv : 255 - v = s.planeByte .black a := by simpa [State.mayDeliver, State.oldBytes_of_calm h] using hv
    rw [State.wireByte, ← hv, complement]
  | lutb t i => exact hv

/-- Settles O25: the ten frames are frames of constants. -/
theorem initializationFramesAreSentWhole : Obligations.InitializationFramesAreSentWhole := by
  intro s hr hn c low high
  have hlow : lo8 (c.h - 1) = low := lo8_eq _
  rw [← hlow]
  have send : ∀ {i o bytes}, frameUops s.cfg i = some (frame o (bytes.map .imm)) → s.SendsFrame i o bytes := fun hus =>
    sendsFrame_of_constants hr hn hus
  exact ⟨send rfl, send rfl, send rfl, send rfl, send rfl, send rfl, send rfl, send rfl, send rfl, send rfl⟩

/-- Settles O26: the eight frames are LUT frames. -/
theorem lutFramesAreSentWhole : Obligations.LutFramesAreSentWhole := by
  intro s hr hn c
  exact ⟨sendsFrame_of_lut (t := 0) hr hn rfl, sendsFrame_of_lut (t := 1) hr hn rfl, sendsFrame_of_lut (t := 2) hr hn rfl,
    sendsFrame_of_lut (t := 3) hr hn rfl, sendsFrame_of_lut (t := 4) hr hn rfl, sendsFrame_of_lut (t := 5) hr hn rfl,
    sendsFrame_of_lut (t := 6) hr hn rfl, sendsFrame_of_lut (t := 7) hr hn rfl⟩

/-- Settles O27: with nothing raced the plane frames carry the bytes their sources name. -/
theorem planeFramesAreSentWhole : Obligations.PlaneFramesAreSentWhole := by
  intro s hr hn hcalm c bw margin half bottom rowMajor
  have red : ∀ fill, s.SendsFrame (.fWriteRamRed fill) c.opcWriteRamRed ((c.redFill fill).map s.wireByte) := fun fill =>
    sendsFrame_of_pinned hr hn (redFill_wf s.cfg fill) (fun _ _ _ hv => eq_wireByte_of_calm hcalm hv) rfl
  have black : ∀ fill, s.SendsFrame (.fWriteRamBlack fill) c.opcWriteRamBlack ((c.blackFill fill).map s.wireByte) := fun fill =>
    sendsFrame_of_pinned hr hn (blackFill_wf s.cfg fill) (fun _ _ _ hv => eq_wireByte_of_calm hcalm hv) rfl
  have with_bytes : ∀ {i o data data'}, data = data' → s.SendsFrame i o data → s.SendsFrame i o data' := fun h hs => h ▸ hs
  exact ⟨fun full hl => with_bytes (map_wireByte_red s full hl) (red _), fun full => with_bytes (map_wireByte_black s full) (black _),
    with_bytes (map_wireByte_zeros s) (red _), with_bytes (map_wireByte_ones s) (black _)⟩

/-- Settles O28: the plane frames are sent whole with bytes their sources may deliver. -/
theorem racedPlaneFramesAreSentWhole : Obligations.RacedPlaneFramesAreSentWhole :=
  fun s hr hn => ⟨fun fill => exists_sendsFrame hr hn (redFill_wf s.cfg fill) rfl,
    fun fill => exists_sendsFrame hr hn (blackFill_wf s.cfg fill) rfl⟩

/-- Settles O29: the three frames are frames of constants. -/
theorem activationAndSleepFramesAreSentWhole : Obligations.ActivationAndSleepFramesAreSentWhole :=
  fun _ hr hn => ⟨sendsFrame_of_constants hr hn rfl, sendsFrame_of_constants hr hn rfl, sendsFrame_of_constants hr hn rfl⟩

/-- Settles O30: the command byte's transfer aborts, and no micro-op of the frame runs after it. -/
theorem faultAtTheCommandByteEndsTheFrame : Obligations.FaultAtTheCommandByteEndsTheFrame := by
  intro s i us hus hr hb
  obtain ⟨hexec, o, l, rfl⟩ := exec_frame hus
  have hr' : (s.drive .dc false).advance.run = true := hr
  have hxfer := runUop_xfer_of_fault (s := (s.drive .dc false).advance) (src := .imm o) rfl hb
  have hsetl : runUop (.setl .dc false) s = .next (s.drive .dc false).advance := rfl
  rw [sendFault_eq] at hxfer
  rw [hexec, frame, cmd]
  simp only [List.cons_append, List.nil_append, runUops, hr, hr', if_true, hsetl, hxfer]
  rw [runUops_of_stopped _ rfl]
  simp only [State.advance, State.drive_dc, State.askedBus, Answers.rest, List.append_assoc]
  rfl

/-! The engine's steps. -/

/-- A run of one more step, where the first faults. -/
theorem run_succ_fault {s : State} {r : Fault} {k : Nat} (h : step s = .fault r) : Sys2Proof.core.run (k + 1) s = .fault r := by
  have h : Sys2Proof.core.step s = .fault r := h
  simp only [Host.Core.run, h]

/-- With an empty schedule the engine's step is the micro-op at `SEQ`. -/
theorem step_of_empty {s : State} {p : List Uop} {u : Uop} (hw : s.cfg.wf = true) (hs : s.sched = []) (hr : s.run = true)
    (hp : s.program = some p) (hu : p[s.seq.toNat]? = some u) : step s = runUop u s := by
  rw [step_of_uop hw (.inl hs) hr hp hu, turnTaken_of_empty hs]

/-- At rest with an empty schedule nothing happens. -/
theorem run_at_rest {s : State} (hw : s.cfg.wf = true) (hs : s.sched = []) (hr : s.run = false) (k : Nat) :
    Sys2Proof.core.run k s = .next s := by
  induction k with
  | zero => rfl
  | succ k ih =>
    have hstep := step_at_rest hw (.inl hs) hr
    rw [turnTaken_of_empty hs] at hstep
    rw [run_succ hstep, ih]

/-- The micro-op that stands first in the rest of a program. -/
theorem getElem?_of_drop {α : Type} {p us : List α} {u : α} {k : Nat} (h : p.drop k = u :: us) :
    p[k]? = some u ∧ p.drop (k + 1) = us ∧ k < p.length := by
  have hlt : k < p.length := by
    by_contra hge
    rw [List.drop_eq_nil_of_le (by omega)] at h; cases h
  rw [List.drop_eq_getElem_cons hlt, List.cons.injEq] at h
  exact ⟨by rw [List.getElem?_eq_getElem hlt, h.1], h.2, hlt⟩

/-- Micro-ops that a program holds at `SEQ`, none of them a wait or `END`: the engine's steps run them one after another. -/
theorem run_eq_runUops {us : List Uop} {s : State} {p rest : List Uop} (hw : s.cfg.wf = true) (hs : s.sched = []) (hr : s.run = true)
    (hp : s.program = some p) (hus : ∀ u ∈ us, (∃ level, u = .setl .dc level) ∨ ∃ src, u = .xfer src)
    (hdrop : p.drop s.seq.toNat = us ++ rest) : Sys2Proof.core.run us.length s = runUops us s := by
  induction us generalizing s with
  | nil => rfl
  | cons u us ih =>
    obtain ⟨hu, hrest, hlt⟩ := getElem?_of_drop hdrop
    obtain ⟨hkind, hus⟩ := List.forall_mem_cons.mp hus
    have hstep := step_of_empty hw hs hr hp hu
    simp only [List.length_cons, runUops, hr, if_true]
    cases hout : runUop u s with
    | fault r => exact run_succ_fault (hstep.trans hout)
    | refused r => exact absurd hout (runUop_not_refused u s r)
    | next t =>
      rw [run_succ (hstep.trans hout)]
      have keeps := runUop_keeps hout
      have hwt : t.cfg.wf = true := keeps.cfg.symm ▸ hw
      have hst : t.sched = [] := keeps.sched.trans hs
      obtain ⟨hend, hseq, hrun, -⟩ | ⟨hwait, -⟩ | ⟨-, -, hrun, -⟩ | ⟨hend, -⟩ := runUop_effect hout
      · have hlt' : s.seq.toNat + 1 < p.length :=
          lt_of_le_of_ne hlt fun hk => hend ((getElem?_eq_endOp_iff hp hu).mpr hk)
        have hseq' : t.seq.toNat = s.seq.toNat + 1 := by rw [hseq]; exact seq_succ_toNat hw hp hlt'
        exact ih hwt hst (hrun.trans hr) (keeps.program.trans hp) hus (hseq' ▸ hrest)
      · obtain ⟨_, rfl⟩ | ⟨_, rfl⟩ := hkind <;> cases hwait
      · exact (run_at_rest hwt hst hrun _).trans (runUops_of_stopped us hrun).symm
      · obtain ⟨_, rfl⟩ | ⟨_, rfl⟩ := hkind <;> cases hend

/-- Settles O31: a frame's micro-ops are no waits and no `END`, so each takes one step. -/
theorem frameIsItsEngineSteps : Obligations.FrameIsItsEngineSteps := by
  intro s i p us rest hw hs hr hp hus hdrop
  obtain ⟨hexec, o, l, rfl⟩ := exec_frame hus
  rw [hexec]
  exact run_eq_runUops hw hs hr hp frame_kind hdrop

end Sys2Proof.Machine
end

section
/-! The run of a permitted operation on a good panel and bus (10_state.md section 2, 70_reset_and_hazards.md section 4). -/

namespace Sys2Proof.Machine
open Sys2Proof

/-- Nothing disturbs the operation in progress: no transfer will fault, every sample will be idle, no byte is raced, no wait is in
progress and no error is held. -/
structure State.Clean (s : State) : Prop where
  noFault : s.NoFault
  panelIdle : s.PanelIdle
  calm : s.raced = []
  notBusy : s.lastBusy = false
  noError : s.err = .none

/-- A micro-op that nothing disturbs emits its events, and stores its panel state; all but `END` advance `SEQ`. -/
theorem runUop_of_clean {s : State} {u : Uop} (h : s.Clean) (hw : ∀ src, u = .xfer src → src.wf s.cfg = true) :
    ∃ t, runUop u s = .next t ∧ t.Clean ∧ t.trace = s.trace ++ s.uopEvents u ∧ t.ps = psAfter s.ps ([u].filterMap storedState) ∧
      (u ≠ .endOp → t.run = s.run ∧ t.seq = s.seq + 1) := by
  obtain ⟨hn, hi, hc, hb, he⟩ := h
  cases u with
  | setl line level => cases line <;> exact ⟨_, rfl, ⟨hn, hi, hc, hb, he⟩, rfl, rfl, fun _ => ⟨rfl, rfl⟩⟩
  | dly ms => exact ⟨_, rfl, ⟨hn, hi, hc, hb, he⟩, rfl, rfl, fun _ => ⟨rfl, rfl⟩⟩
  | xfer src =>
    have hrun := transferSendsTheByteNamed s src (hw src rfl) hc (hn.next _)
    exact ⟨_, (exec_instr (.xfer src) s).symm.trans hrun, ⟨hn.rest, hi, hc, hb, he⟩, rfl, rfl, fun _ => ⟨rfl, rfl⟩⟩
  | waiti =>
    have hrun := (waitTakesOneSample s).1 (hi.next _)
    exact ⟨_, (exec_instr .waiti s).symm.trans hrun, ⟨hn, hi.rest, hc, rfl, he⟩, rfl, rfl, fun _ => ⟨rfl, rfl⟩⟩
  | setps x => exact ⟨_, rfl, ⟨hn, hi, hc, hb, he⟩, (List.append_nil _).symm, rfl, fun _ => ⟨rfl, rfl⟩⟩
  | endOp => exact ⟨_, rfl, ⟨hn, hi, hc, hb, he⟩, (List.append_nil _).symm, rfl, fun hne => absurd rfl hne⟩

/-- The events of a micro-op depend on the configuration and the black plane alone. -/
theorem uopEvents_congr {s t : State} (hcfg : t.cfg = s.cfg) (hbyte : ∀ pl a, t.planeByte pl a = s.planeByte pl a) :
    t.uopEvents = s.uopEvents := by
  funext u
  cases u with
  | xfer src => cases src <;> simp only [State.uopEvents, State.wireByte, hcfg, hbyte]
  | _ => simp only [State.uopEvents, hcfg]

/-- Panel states stored one after another. -/
theorem psAfter_append (ps : PanelState) (xs ys : List RestState) : psAfter ps (xs ++ ys) = psAfter (psAfter ps xs) ys :=
  List.foldl_append

/-- What is left of a program runs to its `END`, one step a micro-op, where nothing disturbs it. -/
theorem run_of_clean {us : List Uop} {s : State} {p : List Uop} (hw : s.cfg.wf = true) (hs : s.sched = []) (hr : s.run = true)
    (hp : s.program = some p) (hdrop : p.drop s.seq.toNat = us) (hlt : s.seq.toNat < p.length) (h : s.Clean) :
    ∃ t, Sys2Proof.core.run us.length s = .next t ∧ s.Keeps t ∧ t.Clean ∧ t.run = false ∧ t.seq.toNat + 1 = p.length ∧
      t.trace = s.trace ++ us.flatMap s.uopEvents ∧ t.ps = psAfter s.ps (us.filterMap storedState) := by
  induction us generalizing s with
  | nil => rw [List.drop_eq_nil_iff] at hdrop; omega
  | cons u us ih =>
    obtain ⟨hu, hrest, -⟩ := getElem?_of_drop hdrop
    have hwf : ∀ src, u = .xfer src → src.wf s.cfg = true := fun src hsrc =>
      (SendsPaired.prog hp).wf_of_mem (hsrc ▸ List.mem_of_getElem? hu)
    obtain ⟨t, hout, hclean, htrace, hps, hadvance⟩ := runUop_of_clean h hwf
    have hstep : step s = .next t := (step_of_empty hw hs hr hp hu).trans hout
    have keeps := runUop_keeps hout
    have hend := getElem?_eq_endOp_iff hp hu
    rw [List.length_cons, run_succ hstep]
    by_cases he : u = .endOp
    · obtain rfl : us = [] := by rw [← hrest, hend.mp he, List.drop_length]
      subst he
      cases hout
      exact ⟨_, rfl, keeps, hclean, rfl, hend.mp rfl, htrace.trans (by simp), hps⟩
    · obtain ⟨hrun, hseq⟩ := hadvance he
      have hlt' : s.seq.toNat + 1 < p.length := lt_of_le_of_ne hlt fun hk => he (hend.mpr hk)
      have hseq' : t.seq.toNat = s.seq.toNat + 1 := by rw [hseq]; exact seq_succ_toNat hw hp hlt'
      obtain ⟨t', hrun', keeps', hclean', hstop, hlast, htrace', hps'⟩ :=
        ih (keeps.cfg.symm ▸ hw) (keeps.sched.trans hs) (hrun.trans hr) (keeps.program.trans hp) (hseq' ▸ hrest) (hseq' ▸ hlt') hclean
      refine ⟨t', hrun', keeps.trans keeps', hclean', hstop, hlast, ?_, ?_⟩
      · rw [htrace', htrace, uopEvents_congr keeps.cfg keeps.planeByte, List.flatMap_cons, List.append_assoc]
      · rw [hps', hps, ← psAfter_append, ← List.filterMap_append]; rfl

/-- The state once the write of `w` has been accepted in the last turn of the schedule. -/
def State.begun (s : State) (w : Half) : State := ({ s with sched := [] } : State).accept w

/-- Settles O42: the write of `REQ` is accepted in one step, and then the program runs to its `END`. -/
theorem operationRunsToItsEnd : Obligations.OperationRunsToItsEnd := by
  intro s i w p hw hs hr hword hp hper hn hi
  obtain ⟨b, hb, rfl⟩ := program_eq_some.mp hp
  have hd : decode w = .ok i := decode_eq_ok_iff.mpr hword
  have hstep : step s = .next (s.begun w) := by
    rw [step_writeReq_of_ok hw hs hd]
    exact exec_of_permitted (isOperation_of_program hp) hr hper (by rw [wordOf, hword, Option.getD_some])
  have hprog : (s.begun w).program = some (b ++ [.endOp]) := prog_eq_some.mpr ⟨i, hd, hp⟩
  have hbyte : ∀ pl a, (s.begun w).planeByte pl a = s.planeByte pl a := fun pl a => by cases pl <;> rfl
  obtain ⟨t, hrun, keeps, hclean, hstop, hseq, htrace, hps⟩ :=
    run_of_clean (us := b ++ [.endOp]) (s := s.begun w) hw rfl rfl hprog rfl (by simp [State.begun]) ⟨hn, hi, rfl, rfl, rfl⟩
  have hevents : (s.begun w).uopEvents = s.uopEvents := uopEvents_congr rfl hbyte
  rw [hevents] at htrace
  refine ⟨t, ?_, ⟨hstop, hclean.noError⟩, ?_, htrace, keeps.rej, hclean.notBusy, keeps.opr, hseq, keeps.cfg,
    fun pl a => (keeps.planeByte pl a).trans (hbyte pl a)⟩
  · rw [Nat.add_comm, run_succ hstep]; exact hrun
  · obtain ⟨-, hend⟩ := body_holds hb
    rw [hps, ← hend, List.filterMap_append, psAfter_append]; rfl

end Sys2Proof.Machine
end

section
/-! The busy samples of a wait (41_framing_handshake_reset.md section 2, 70_reset_and_hazards.md sections 3 and 4). -/

namespace Sys2Proof.Machine
open Sys2Proof

/-- A run of one more step, taken at its end. -/
theorem run_succ_last {s t u : State} {k : Nat} (h : Sys2Proof.core.run k s = .next t) (hstep : step t = .next u) :
    Sys2Proof.core.run (k + 1) s = .next u := by
  induction k generalizing s with
  | zero => cases h; exact run_succ hstep
  | succ k ih =>
    obtain ⟨v, hv, hrun⟩ := run_succ_next h
    rw [run_succ hv]; exact ih hrun

/-- The engine is in a wait, with the schedule empty. -/
structure State.Waits (s : State) : Prop where
  config : s.cfg.wf = true
  empty : s.sched = []
  running : s.run = true
  current : s.currentUop = some .waiti

/-- In a wait the step is a sample. -/
theorem step_of_waits {s : State} (h : s.Waits) : step s = runUop .waiti s := by
  obtain ⟨p, hp, hu⟩ := Option.bind_eq_some_iff.mp h.current
  exact step_of_empty h.config h.empty h.running hp hu

/-- The state once a busy sample below the bound has been seen. -/
def State.busyAgain (s : State) : State := { s.sampled.countSample with lastBusy := true }

/-- The state once the busy sample at the bound has been seen. -/
def State.waitOut (s : State) : State := s.sampled.abort .timeout

/-- `t` is the state after `k` busy samples of the wait that `s` is in. -/
structure SawBusy (k : Nat) (s t : State) : Prop where
  run : Sys2Proof.core.run k s = .next t
  waits : t.Waits
  cfg : t.cfg = s.cfg
  opr : t.opr = s.opr
  seq : t.seq = s.seq
  err : t.err = s.err
  trace : t.trace = s.trace ++ List.replicate k (.S (!s.cfg.busyIdleLevel))
  samples : t.busySamples = s.busySamples + k
  panel : t.panel = { s.panel with script := s.panel.script.drop k }
  lastBusy : k ≠ 0 → t.lastBusy = true

namespace SawBusy
variable {k n : Nat} {s t : State}

theorem zero (h : s.Waits) : SawBusy 0 s s where
  run := rfl
  waits := h
  cfg := rfl
  opr := rfl
  seq := rfl
  err := rfl
  trace := by simp
  samples := rfl
  panel := rfl
  lastBusy h := absurd rfl h

/-- Another busy sample below the bound. -/
theorem succ (h : SawBusy k s t) (hb : t.busyLevel = !s.cfg.busyIdleLevel) (hbelow : t.timesOut = false) :
    SawBusy (k + 1) s t.busyAgain where
  run := by
    refine run_succ_last h.run ?_
    rw [step_of_waits h.waits, runUop_waiti_of_busy (h.cfg ▸ hb), waitBusy_of_below (s := t.sampled) hbelow, State.busyAgain]
  waits := ⟨h.waits.config, h.waits.empty, h.waits.running, h.waits.current⟩
  cfg := h.cfg
  opr := h.opr
  seq := h.seq
  err := h.err
  trace := by
    have hsample : t.busyAgain.trace = t.trace ++ [.S t.busyLevel] := rfl
    rw [hsample, hb, h.trace, List.replicate_succ', List.append_assoc]
  samples := by
    have hcount : t.busyAgain.busySamples = t.busySamples + 1 := State.countSample_busySamples t.sampled
    rw [hcount, h.samples, Nat.add_assoc]
  panel := by
    have hrest : t.busyAgain.panel = t.panel.rest := rfl
    simp [hrest, h.panel, Answers.rest]
  lastBusy _ := rfl

/-- The idle sample that ends the wait. -/
theorem run_idle (h : SawBusy k s t) (hi : t.busyLevel = s.cfg.busyIdleLevel) :
    Sys2Proof.core.run (k + 1) s = .next t.sampled.waitDone ∧
      t.sampled.waitDone.trace = s.trace ++ List.replicate k (.S (!s.cfg.busyIdleLevel)) ++ [.S s.cfg.busyIdleLevel] := by
  refine ⟨run_succ_last h.run ?_, ?_⟩
  · rw [step_of_waits h.waits, runUop_waiti_of_idle (h.cfg ▸ hi)]
  · rw [← h.trace, ← hi]; rfl

/-- The busy sample that aborts the wait. -/
theorem run_timeout (h : SawBusy k s t) (hb : t.busyLevel = !s.cfg.busyIdleLevel) (hout : t.timesOut = true) :
    Sys2Proof.core.run (k + 1) s = .next t.waitOut ∧
      t.waitOut.trace = s.trace ++ List.replicate (k + 1) (.S (!s.cfg.busyIdleLevel)) := by
  refine ⟨run_succ_last h.run ?_, ?_⟩
  · rw [step_of_waits h.waits, runUop_waiti_of_busy (h.cfg ▸ hb), waitBusy_of_timesOut (s := t.sampled) hout, State.waitOut]
  · have hsample : t.waitOut.trace = t.trace ++ [.S t.busyLevel] := rfl
    rw [hsample, hb, h.trace, List.replicate_succ', List.append_assoc]

/-- Whether the next busy sample of a bounded wait is at the bound. -/
theorem timesOut (h : SawBusy k s t) (hn : s.cfg.waitTimeout = some n) : t.timesOut = decide (n ≤ s.busySamples + k + 1) := by
  rw [State.timesOut_of_some (h.cfg.symm ▸ hn), h.samples]

/-- A stuck busy line stays stuck, so that the next sample is busy. -/
theorem stuck (h : SawBusy k s t) (hs : s.PanelStuck) : t.PanelStuck ∧ t.busyLevel = !s.cfg.busyIdleLevel := by
  have hstuck : t.PanelStuck := by
    rw [State.PanelStuck, h.panel, h.cfg]; exact hs.drop k
  exact ⟨hstuck, (hstuck.next _).trans (by rw [h.cfg])⟩

end SawBusy

/-- As many busy samples as are answered busy below the bound are seen. -/
theorem exists_sawBusy {s : State} (hw : s.Waits) {m : Nat}
    (h : ∀ k t, k < m → SawBusy k s t → t.busyLevel = (!s.cfg.busyIdleLevel) ∧ t.timesOut = false) : ∃ t, SawBusy m s t := by
  induction m with
  | zero => exact ⟨s, .zero hw⟩
  | succ m ih =>
    obtain ⟨t, ht⟩ := ih fun k t hk => h k t (Nat.lt_succ_of_lt hk)
    obtain ⟨hb, hbelow⟩ := h m t (Nat.lt_succ_self m) ht
    exact ⟨_, ht.succ hb hbelow⟩

/-- Settles O43: the scripted busy answers are seen one by one, and the idle one ends the wait. -/
theorem waitAdmitsAnyNumberOfBusySamples : Obligations.WaitAdmitsAnyNumberOfBusySamples := by
  intro s k later hw hs hr hcur hbound hscript
  have answer : ∀ {j t}, SawBusy j s t → ∀ x l, s.panel.script.drop j = x :: l → t.busyLevel = x ∧ t.panel.script = x :: l := by
    intro j t ht x l hl
    have hp : t.panel.script = x :: l := by rw [ht.panel]; exact hl
    exact ⟨by simp [State.busyLevel, Answers.next, hp], hp⟩
  obtain ⟨t, ht⟩ := exists_sawBusy (m := k) ⟨hw, hs, hr, hcur⟩ fun j t hj ht => by
    obtain ⟨d, rfl⟩ := Nat.exists_eq_add_of_lt hj
    have hdrop : s.panel.script.drop j = (!s.cfg.busyIdleLevel) :: (List.replicate d (!s.cfg.busyIdleLevel) ++ s.cfg.busyIdleLevel :: later) := by
      rw [hscript, Nat.add_assoc, List.replicate_add, List.append_assoc, List.drop_left' (List.length_replicate ..)]; rfl
    refine ⟨(answer ht _ _ hdrop).1, ?_⟩
    cases hn : s.cfg.waitTimeout with
    | none => exact State.timesOut_of_none (ht.cfg.symm ▸ hn)
    | some n =>
      have := hbound n hn
      rw [ht.timesOut hn, decide_eq_false_iff_not, State.busySamples]; omega
  have hdrop : s.panel.script.drop k = s.cfg.busyIdleLevel :: later := by
    rw [hscript, List.drop_left' (List.length_replicate ..)]
  obtain ⟨hi, hpanel⟩ := answer ht _ _ hdrop
  obtain ⟨hrun, htrace⟩ := ht.run_idle hi
  refine ⟨_, hrun, ht.waits.running, congrArg (· + 1) ht.seq, rfl, rfl, rfl, ?_, htrace⟩
  exact congrArg List.tail hpanel

/-- Settles O44: with no bound every sample of a stuck line is busy and below it. -/
theorem stuckBusyLineHangsForEver : Obligations.StuckBusyLineHangsForEver := by
  intro s k hw hs hr hcur hnone hstuck
  obtain ⟨t, ht⟩ := exists_sawBusy (m := k + 1) ⟨hw, hs, hr, hcur⟩ fun j t _ ht =>
    ⟨(ht.stuck hstuck).2, State.timesOut_of_none (ht.cfg.symm ▸ hnone)⟩
  refine ⟨t, ht.run, ht.waits.running, ht.seq, ht.opr, ?_, (ht.stuck hstuck).1, ht.waits.current, ht.trace⟩
  rw [State.pstate, ht.waits.running, ht.lastBusy (Nat.succ_ne_zero k)]; rfl

/-- Settles O45: the first idle sample before the bound ends the wait, and where there is none the busy sample at the bound aborts it. -/
theorem boundedWaitTimesOut : Obligations.BoundedWaitTimesOut := by
  intro s n hw hs hr hcur hn hpolls hwraps
  have hwait : s.Waits := ⟨hw, hs, hr, hcur⟩
  have hseen : s.busySamples = 0 := by rw [State.busySamples, hpolls, hwraps]; rfl
  obtain ⟨m, rfl⟩ : ∃ m, n = m + 1 := Nat.exists_eq_succ_of_ne_zero fun h0 => by
    obtain ⟨-, -, -, -, -, -, -, hne⟩ := (wf_iff s.cfg).mp hw
    exact hne (h0 ▸ hn)
  have hout : ∀ {k t}, SawBusy k s t → t.timesOut = decide (m + 1 ≤ k + 1) := fun ht => by
    rw [ht.timesOut hn, hseen, Nat.zero_add]
  have abort : (∀ k t, k < m + 1 → SawBusy k s t → t.busyLevel = !s.cfg.busyIdleLevel) →
      ∃ t : State, Sys2Proof.core.run (m + 1) s = .next t.waitOut ∧ t.waitOut.seq = s.seq ∧
        t.waitOut.trace = s.trace ++ List.replicate (m + 1) (.S (!s.cfg.busyIdleLevel)) := by
    intro hbusy
    obtain ⟨t, ht⟩ := exists_sawBusy (m := m) hwait fun k t hk ht =>
      ⟨hbusy k t (Nat.lt_succ_of_lt hk) ht, by rw [hout ht, decide_eq_false_iff_not]; omega⟩
    obtain ⟨hrun, htrace⟩ := ht.run_timeout (hbusy m t (Nat.lt_succ_self m) ht) (by rw [hout ht]; exact decide_eq_true le_rfl)
    exact ⟨t, hrun, ht.seq, htrace⟩
  constructor
  · intro hstuck
    obtain ⟨t, hrun, hseq, htrace⟩ := abort fun k t _ ht => (ht.stuck hstuck).2
    exact ⟨_, hrun, rfl, rfl, rfl, rfl, hseq, htrace⟩
  · by_cases hidle : ∃ k t, k < m + 1 ∧ SawBusy k s t ∧ t.busyLevel = s.cfg.busyIdleLevel
    · obtain ⟨k, t, hk, ht, hi⟩ := hidle
      obtain ⟨hrun, htrace⟩ := ht.run_idle hi
      exact ⟨k + 1, _, hk, hrun, rfl, .inl ⟨ht.waits.running, congrArg (· + 1) ht.seq, ht.err, htrace⟩⟩
    · push Not at hidle
      obtain ⟨t, hrun, hseq, htrace⟩ := abort fun k t hk ht => Bool.eq_not_of_ne (hidle k t hk ht)
      exact ⟨m + 1, _, le_rfl, hrun, rfl, .inr ⟨rfl, rfl, hseq, rfl, rfl, htrace⟩⟩

end Sys2Proof.Machine
end
